-- ==== Sys2Proof/Word.lean ====
section
/-! DEFINITION. The words of the PV-6412: bytes, ticks, samples, coefficients, quadrants (manual, sections 3.1
and 3.2). -/

namespace Sys2Proof

/-- One byte of the node link. -/
abbrev Byte := BitVec 8

/-- A tick of the timebase: 32 bits, wrap discipline (section 3.1). -/
abbrev Tick := BitVec 32

/-- A quadrant 0 .. 3 of a preamble symbol (section 2.6). -/
abbrev Quadrant := BitVec 2

/-- A received sample: two signed components in −2048 .. 2047 (section 3.2). -/
structure Sample where
  re : BitVec 12
  im : BitVec 12
  deriving DecidableEq, Repr

/-- A coefficient: two signed components in −32768 .. 32767, 16384 being 1.0 (section 3.2). -/
structure Coef where
  re : BitVec 16
  im : BitVec 16
  deriving DecidableEq, Repr

/-- 24 complex coefficients, taps 0 .. 23 (section 6.1). -/
abbrev CoefVector := Vector Coef 24

/-- An exact complex integer (section 3.2). -/
structure Cx where
  re : Int
  im : Int
  deriving DecidableEq, Repr

/-- The exact value of a sample. -/
def Sample.toCx (x : Sample) : Cx := ⟨x.re.toInt, x.im.toInt⟩

/-- The exact value of a coefficient. -/
def Coef.toCx (c : Coef) : Cx := ⟨c.re.toInt, c.im.toInt⟩

end Sys2Proof
end

