-- ==== Sys2Proof/Config.lean ====
section
/-! DEFINITION. The part's fixed quantities, each with the rule that gives it. The manual leaves no value of this
kind open, so there is no free value among them. -/

namespace Sys2Proof.Config

/-- R36: grants a queue holds. -/
def queueDepth : Nat := 48
/-- R45, section 3.1 of chapter 3: symbols from the arm tick to the start tick. -/
def armLead : Nat := 64
/-- R72, R73: samples counted in CLOSING. -/
def closeSamples : Nat := 128
/-- R160: the least chain n that is judged by the gate. -/
def judgedSymbols : Nat := 16
/-- R69: data positions of an energy block. -/
def blockLength : Nat := 8
/-- R178: capacity of the output queue in bytes. -/
def outputCapacity : Nat := 262144
/-- R178: the fill up to which burst records may be placed. -/
def recordLimit : Nat := 229376
/-- R181: notices held at most. -/
def noticeLimit : Nat := 32
/-- R185: payload bytes of the inbound buffer. -/
def inboundCapacity : Nat := 16384
/-- R188: message bytes of an outbound frame at most. -/
def frameMessageBytes : Nat := 1498
/-- Section 10.1: payload bytes of a frame at least and at most. -/
def payloadMin : Nat := 46
def payloadMax : Nat := 1500
/-- Section 10.1: link type of a node-link frame. -/
def linkType : Nat := 0xB6E1
/-- R183, R184: body bytes a message can have at most: a payload of 1,500 less the carry count and the header. -/
def messageBodyMax : Nat := 1494
/-- R127: directory entries at most. -/
def directoryDepth : Nat := 384
/-- R129: entries one DIRECTORY GET lists at most. -/
def directoryPage : Nat := 128
/-- R115: the limits of the 48-bit sums and of chain n. -/
def sumLimit : Nat := 2 ^ 48 - 1
def chainCountLimit : Nat := 2 ^ 32 - 1
/-- R9, R10: ticks of a millisecond and of a second of setting. -/
def ticksPerMs : Nat := 25600
def ticksPerSecond : Nat := 25600000

end Sys2Proof.Config
end

