-- ==== Sys2Proof/Syntax.lean ====
section
/-! DEFINITION. The commands of the PV-6412, one constructor for each row of the table of operations and events,
and the values its messages carry. -/

namespace Sys2Proof

/-- Symbol rate of a channel: 1.6, 3.2 or 6.4 Msym/s (R18). -/
inductive SymbolRate where
  | msym1_6 | msym3_2 | msym6_4
  deriving DecidableEq, Repr

/-- Symbols of a minislot: 8, 16, 32 or 64 (R18). -/
inductive MinislotSize where
  | sym8 | sym16 | sym32 | sym64
  deriving DecidableEq, Repr

/-- Abort disposition: PARTIAL, HEADER or SILENT (R19). -/
inductive Disposition where
  | withList | header | silent
  deriving DecidableEq, Repr

/-- Modulation of a burst class (section 2.5). -/
inductive Modulation where
  | qpsk | qam16 | qam64 | qam256
  deriving DecidableEq, Repr

/-- The five tables of the access pointer (section 10.3). -/
inductive TableId where
  | classes | preambles | profileCurrent | profilePrevious | profileMeta
  deriving DecidableEq, Repr

/-- A grant's five fields as a SCHEDULE carries them (section 3.1 of chapter 3). The station code 16383 marks an
open grant. -/
structure Grant where
  station : Nat
  start : BitVec 32
  length : Nat
  cls : Fin 6
  ranging : Bool
  chain : Bool
  noWriteback : Bool
  deriving DecidableEq, Repr

/-- The fields of a burst class entry (section 2.5). `guardLen` is the guard, `rho` the detection ratio, `gate` the
gate threshold, `floor` the energy floor. -/
structure ClassEntry where
  valid : Bool
  modulation : Modulation
  preamble : Fin 8
  lp : Nat
  w : Nat
  rho : Nat
  muTrain : Nat
  muTrack : Nat
  guardLen : Nat
  gate : Nat
  floor : Nat
  deriving DecidableEq, Repr

/-- One item of a TABLE PUT, in the format of its table (section 10.6). -/
inductive PutItem where
  | classEntry (e : ClassEntry)
  | pattern (qs : List Quadrant)
  | coefficient (c : Coef)
  | profileFields (offset bias : Int) (revertLimit : Nat)
  deriving DecidableEq, Repr

/-- A message of the node link: its kind byte, its tag and the bytes after its 4-byte header (R184). -/
structure Message where
  kind : Byte
  tag : Byte
  body : List Byte
  deriving DecidableEq, Repr

/-- The commands: one constructor for each row of the table of operations and events.

The rows that are requests (and TIME MARK, and a message of an unknown kind) carry the message they take: its tag
and its body, the bytes after the 4-byte header, as section 10.6 lays them out. The rows that are events of a
channel or a lane name it. A received frame is carried whole, from its destination address to its check sequence. -/
inductive Instr where
  /-- RESET_N driven low, or power-on (R15). -/
  | resetNAssert
  /-- RESET_N released (R1). -/
  | resetNRelease
  /-- An Ethernet frame arrives (R183). -/
  | frameReceived (frame : List Byte)
  /-- The node link can send a frame (R188). -/
  | frameSend
  /-- TIME MARK is taken (R5). -/
  | timeMark (tag : Byte) (body : List Byte)
  /-- The mark timeout's deadline (R9). -/
  | markTimeoutExpiry
  /-- The holdover limit's deadline (R10). -/
  | holdoverLimitExpiry
  /-- NODE SET (R194). -/
  | nodeSet (tag : Byte) (body : List Byte)
  /-- RESET NODE (R195). -/
  | resetNode (tag : Byte) (body : List Byte)
  /-- CHANNEL SET (R18). -/
  | channelSet (tag : Byte) (body : List Byte)
  /-- CHANNEL START (R20). -/
  | channelStart (tag : Byte) (body : List Byte)
  /-- CHANNEL STOP (R21). -/
  | channelStop (tag : Byte) (body : List Byte)
  /-- CHANNEL HALT (R23). -/
  | channelHalt (tag : Byte) (body : List Byte)
  /-- SCHEDULE (R38). -/
  | schedule (tag : Byte) (body : List Byte)
  /-- PROFILE BIND (R131). -/
  | profileBind (tag : Byte) (body : List Byte)
  /-- PROFILE UNBIND (R132). -/
  | profileUnbind (tag : Byte) (body : List Byte)
  /-- PROFILE REVERT (R135). -/
  | profileRevert (tag : Byte) (body : List Byte)
  /-- PROFILE CLEAR (R136). -/
  | profileClear (tag : Byte) (body : List Byte)
  /-- TABLE SEEK (R189). -/
  | tableSeek (tag : Byte) (body : List Byte)
  /-- TABLE PUT (R190). -/
  | tablePut (tag : Byte) (body : List Byte)
  /-- The next item of the PUT under way (R190). -/
  | putItem
  /-- TABLE GET (R191). -/
  | tableGet (tag : Byte) (body : List Byte)
  /-- The next item of the GET under way (R191). -/
  | getItem
  /-- DIRECTORY GET (R129). -/
  | directoryGet (tag : Byte) (body : List Byte)
  /-- STATUS GET (R193). -/
  | statusGet (tag : Byte) (body : List Byte)
  /-- A message of a kind that is not an inbound kind (R186). -/
  | unknownKind (kind : Byte) (tag : Byte) (body : List Byte)
  /-- The channel's lock line shows LOST (R24). -/
  | inputLockLost (ch : Fin 6)
  /-- The channel's lock line shows LOCKED (R25). -/
  | inputLockLocked (ch : Fin 6)
  /-- The arming event of the channel's head grant (R46). -/
  | arming (ch : Fin 6)
  /-- The lane's window-open tick (R61). -/
  | windowOpening (l : Fin 12)
  /-- The lane's search end tick (R63). -/
  | searchEnd (l : Fin 12)
  /-- A sample of the channel arrives (R60). -/
  | sampleArrival (ch : Fin 6) (re im : BitVec 12)
  /-- The lane's grant end tick (R67). -/
  | endEvent (l : Fin 12)
  /-- The lane's close count reaches 128 (R73). -/
  | closeCompletion (l : Fin 12)
  /-- The sweep's next-visit tick (R138). -/
  | sweepVisit
  /-- One period of the timebase reference clock (R1). -/
  | tick
  deriving DecidableEq, Repr

end Sys2Proof
end

