-- ==== Sys2Proof/WellFormed.lean ====
section
/-! DEFINITION. Which commands can be sent to the part: a message fits a frame (R184), and a message of an unknown
kind has a kind that is neither 0 nor an inbound kind (R184, R186). -/

namespace Sys2Proof

/-- A body that one frame can carry: a message never spans two received frames (R184). -/
def bodyFits (body : List Byte) : Bool := body.length ≤ Config.messageBodyMax

/-- The kind bytes of section 10.6 that the headend sends, and 0, which is padding (R184). -/
def kindIsKnown (k : Byte) : Bool :=
  k.toNat ∈ [0x00, 0x01, 0x02, 0x03, 0x10, 0x11, 0x12, 0x13, 0x18, 0x20, 0x21, 0x22, 0x23, 0x28, 0x29, 0x2A, 0x2C, 0x30]

/-- The commands that can be sent. -/
def WellFormed : Instr → Bool
  | .timeMark _ b | .nodeSet _ b | .resetNode _ b | .channelSet _ b | .channelStart _ b | .channelStop _ b
  | .channelHalt _ b | .schedule _ b | .profileBind _ b | .profileUnbind _ b | .profileRevert _ b
  | .profileClear _ b | .tableSeek _ b | .tablePut _ b | .tableGet _ b | .directoryGet _ b | .statusGet _ b =>
    bodyFits b
  | .unknownKind k _ b => bodyFits b && !kindIsKnown k
  | .resetNAssert | .resetNRelease | .frameReceived _ | .frameSend | .markTimeoutExpiry | .holdoverLimitExpiry
  | .putItem | .getItem | .inputLockLost _ | .inputLockLocked _ | .arming _ | .windowOpening _ | .searchEnd _
  | .sampleArrival _ _ _ | .endEvent _ | .closeCompletion _ | .sweepVisit | .tick => true

end Sys2Proof
end

