-- ==== Sys2Proof/Decode.lean ====
section
/-! DEFINITION. Reading and writing the node link's messages: multi-byte fields, the body of every request kind, the
items of the access pointer's tables, the separation of a frame's messages, and the frame check sequence (chapter 10).
`decodeTableWord` answers for the table of operations, whose rows give no bits. -/

namespace Sys2Proof

/-! ### Multi-byte fields (R197) -/

/-- `n` bytes of `v`, most significant byte first (R197). -/
def beBytes : Nat → Nat → List Byte
  | 0, _ => []
  | n + 1, v => BitVec.ofNat 8 (v / 256 ^ n) :: beBytes n v

/-- The unsigned value of bytes sent most significant byte first (R197). -/
def beValue (l : List Byte) : Nat := l.foldl (fun a b => a * 256 + b.toNat) 0

/-- `n` bytes of a signed value, two's complement (R197). -/
def beSigned (n : Nat) (v : Int) : List Byte := beBytes n (v % (256 ^ n : Nat)).toNat

/-- The signed value of a byte (R197). -/
def signed8 (b : Byte) : Int := b.toInt

/-- The signed value of two bytes (R197). -/
def signed16 (hi lo : Byte) : Int := (hi ++ lo).toInt

/-- The unsigned value of two bytes (R197). -/
def value16 (hi lo : Byte) : Nat := (hi ++ lo).toNat

/-- The 32-bit word of four bytes (R197). -/
def word32 (a b c d : Byte) : BitVec 32 := ((a ++ b) ++ c) ++ d

/-- The four bytes of a 32-bit word (R197). -/
def bytes32 (w : BitVec 32) : List Byte :=
  [w.extractLsb' 24 8, w.extractLsb' 16 8, w.extractLsb' 8 8, w.extractLsb' 0 8]

/-- A field whose only values are 0 and 1. -/
def readBool (b : Byte) : Option Bool :=
  if b = 0#8 then some false else if b = 1#8 then some true else none

/-- The byte of a field whose only values are 0 and 1. -/
def boolByte (b : Bool) : Byte := if b then 1#8 else 0#8

/-! ### Codes of the formats (section 10.6) -/

def Modulation.code : Modulation → Nat
  | .qpsk => 0 | .qam16 => 1 | .qam64 => 2 | .qam256 => 3

def readModulation (b : Byte) : Option Modulation :=
  match b.toNat with
  | 0 => some .qpsk | 1 => some .qam16 | 2 => some .qam64 | 3 => some .qam256 | _ => none

def readRate (b : Byte) : Option SymbolRate :=
  match b.toNat with
  | 0 => some .msym1_6 | 1 => some .msym3_2 | 2 => some .msym6_4 | _ => none

def SymbolRate.code : SymbolRate → Nat
  | .msym1_6 => 0 | .msym3_2 => 1 | .msym6_4 => 2

def readMinislot (b : Byte) : Option MinislotSize :=
  match b.toNat with
  | 8 => some .sym8 | 16 => some .sym16 | 32 => some .sym32 | 64 => some .sym64 | _ => none

/-- spm: symbols per minislot (section 3.1). -/
def MinislotSize.spm : MinislotSize → Nat
  | .sym8 => 8 | .sym16 => 16 | .sym32 => 32 | .sym64 => 64

def readDisposition (b : Byte) : Option Disposition :=
  match b.toNat with
  | 0 => some .withList | 1 => some .header | 2 => some .silent | _ => none

def Disposition.code : Disposition → Nat
  | .withList => 0 | .header => 1 | .silent => 2

def readTable (b : Byte) : Option TableId :=
  match b.toNat with
  | 0 => some .classes | 1 => some .preambles | 2 => some .profileCurrent
  | 3 => some .profilePrevious | 4 => some .profileMeta | _ => none

def TableId.code : TableId → Nat
  | .classes => 0 | .preambles => 1 | .profileCurrent => 2 | .profilePrevious => 3 | .profileMeta => 4

/-- Items of each table: the pointer is at the end when its index equals this (section 10.3). -/
def TableId.items : TableId → Nat
  | .classes => 6 | .preambles => 8 | .profileCurrent => 9216 | .profilePrevious => 9216 | .profileMeta => 384

/-- Kind codes of the messages (section 10.6). -/
def kindTimeMark : Byte := 0x01#8
def kindNodeSet : Byte := 0x02#8
def kindResetNode : Byte := 0x03#8
def kindChannelSet : Byte := 0x10#8
def kindChannelStart : Byte := 0x11#8
def kindChannelStop : Byte := 0x12#8
def kindChannelHalt : Byte := 0x13#8
def kindSchedule : Byte := 0x18#8
def kindProfileBind : Byte := 0x20#8
def kindProfileUnbind : Byte := 0x21#8
def kindProfileRevert : Byte := 0x22#8
def kindProfileClear : Byte := 0x23#8
def kindTableSeek : Byte := 0x28#8
def kindTablePut : Byte := 0x29#8
def kindTableGet : Byte := 0x2A#8
def kindDirectoryGet : Byte := 0x2C#8
def kindStatusGet : Byte := 0x30#8
def kindBurstRecord : Byte := 0x80#8
def kindResponse : Byte := 0x81#8
def kindNotice : Byte := 0x82#8

/-- The inbound kinds of section 10.6; every other kind is unknown (R186), the outbound ones among them. -/
def inboundKinds : List Byte :=
  [kindTimeMark, kindNodeSet, kindResetNode, kindChannelSet, kindChannelStart, kindChannelStop, kindChannelHalt,
   kindSchedule, kindProfileBind, kindProfileUnbind, kindProfileRevert, kindProfileClear, kindTableSeek,
   kindTablePut, kindTableGet, kindDirectoryGet, kindStatusGet]

/-! ### Bodies of the requests (section 10.6, R186)

Each reader answers `none` where the message is malformed: its length differs from the one its kind and counts give,
or a field holds a value outside its set. Each has its writer. -/

/-- TIME MARK: T. -/
def readTimeMark : List Byte → Option Tick
  | [a, b, c, d] => some (word32 a b c d)
  | _ => none

def writeTimeMark (t : Tick) : List Byte := bytes32 t

/-- NODE SET's five fields as carried, before clamping (R194). -/
structure NodeSettings where
  markTimeout : Nat
  holdoverLimit : Nat
  stepTolerance : Nat
  ageingPeriod : Nat
  ageLimit : Nat
  deriving DecidableEq, Repr

def readNodeSet : List Byte → Option NodeSettings
  | [a, b, c, d, e, f, g, h, i] => some ⟨value16 a b, value16 c d, value16 e f, value16 g h, i.toNat⟩
  | _ => none

def writeNodeSet (n : NodeSettings) : List Byte :=
  beBytes 2 n.markTimeout ++ beBytes 2 n.holdoverLimit ++ beBytes 2 n.stepTolerance ++
    beBytes 2 n.ageingPeriod ++ beBytes 1 n.ageLimit

/-- RESET NODE and STATUS GET have no body. -/
def readEmpty : List Byte → Option Unit
  | [] => some ()
  | _ => none

/-- CHANNEL SET's fields (R18). -/
structure ChannelSettings where
  channel : Nat
  rate : SymbolRate
  spm : MinislotSize
  disposition : Disposition
  epoch : Tick
  deriving DecidableEq, Repr

def readChannelSet : List Byte → Option ChannelSettings
  | [ch, r, m, d, e0, e1, e2, e3] =>
    match readRate r, readMinislot m, readDisposition d with
    | some rate, some spm, some disp => some ⟨ch.toNat, rate, spm, disp, word32 e0 e1 e2 e3⟩
    | _, _, _ => none
  | _ => none

def writeChannelSet (c : ChannelSettings) : List Byte :=
  beBytes 1 c.channel ++ beBytes 1 c.rate.code ++ beBytes 1 c.spm.spm ++ beBytes 1 c.disposition.code ++ bytes32 c.epoch

/-- CHANNEL START, STOP and HALT: the channel. -/
def readChannel : List Byte → Option Nat
  | [ch] => some ch.toNat
  | _ => none

def writeChannel (ch : Nat) : List Byte := beBytes 1 ch

/-- One 8-byte grant entry; out-of-set values make the SCHEDULE malformed (R37, R197). -/
def readGrant (s0 s1 m0 m1 m2 m3 len fl : Byte) : Option Grant :=
  let station := value16 s0 s1
  let cls := (fl.extractLsb' 5 3).toNat
  if h : cls < 6 then
    if 1 ≤ station ∧ station ≤ 16383 ∧ 1 ≤ len.toNat ∧ fl.extractLsb' 3 2 = 0#2 then
      some { station := station, start := word32 m0 m1 m2 m3, length := len.toNat, cls := ⟨cls, h⟩,
             ranging := fl.getLsbD 2, chain := fl.getLsbD 1, noWriteback := fl.getLsbD 0 }
    else none
  else none

/-- `k` grant entries and nothing after them. -/
def readGrants : Nat → List Byte → Option (List Grant)
  | 0, [] => some []
  | k + 1, s0 :: s1 :: m0 :: m1 :: m2 :: m3 :: len :: fl :: rest =>
    match readGrant s0 s1 m0 m1 m2 m3 len fl, readGrants k rest with
    | some g, some gs => some (g :: gs)
    | _, _ => none
  | _, _ => none

/-- SCHEDULE: a channel and 1 .. 32 grants (R37). -/
def readSchedule : List Byte → Option (Nat × List Grant)
  | ch :: k :: rest =>
    if 1 ≤ k.toNat ∧ k.toNat ≤ 32 then
      match readGrants k.toNat rest with
      | some gs => some (ch.toNat, gs)
      | none => none
    else none
  | _ => none

def writeGrant (g : Grant) : List Byte :=
  beBytes 2 g.station ++ bytes32 g.start ++ beBytes 1 g.length ++
    beBytes 1 (g.cls.val * 32 + (if g.ranging then 4 else 0) + (if g.chain then 2 else 0) +
      (if g.noWriteback then 1 else 0))

def writeSchedule (ch : Nat) (gs : List Grant) : List Byte :=
  beBytes 1 ch ++ beBytes 1 gs.length ++ gs.flatMap writeGrant

/-- PROFILE BIND's fields (R130). -/
structure BindRequest where
  station : Nat
  channel : Nat
  profile : Nat
  revertLimit : Nat
  keep : Bool
  deriving DecidableEq, Repr

def readProfileBind : List Byte → Option BindRequest
  | [s0, s1, ch, p0, p1, rl, ini] =>
    match readBool ini with
    | some keep =>
      if 1 ≤ value16 s0 s1 ∧ value16 s0 s1 ≤ 16382 then
        some ⟨value16 s0 s1, ch.toNat, value16 p0 p1, rl.toNat, keep⟩
      else none
    | none => none
  | _ => none

def writeProfileBind (r : BindRequest) : List Byte :=
  beBytes 2 r.station ++ beBytes 1 r.channel ++ beBytes 2 r.profile ++ beBytes 1 r.revertLimit ++ [boolByte r.keep]

/-- PROFILE UNBIND: station and channel (R132). -/
def readProfileUnbind : List Byte → Option (Nat × Nat)
  | [s0, s1, ch] =>
    if 1 ≤ value16 s0 s1 ∧ value16 s0 s1 ≤ 16382 then some (value16 s0 s1, ch.toNat) else none
  | _ => none

def writeProfileUnbind (station ch : Nat) : List Byte := beBytes 2 station ++ beBytes 1 ch

/-- PROFILE REVERT and CLEAR: the profile index (R135, R136). -/
def readProfile : List Byte → Option Nat
  | [p0, p1] => some (value16 p0 p1)
  | _ => none

def writeProfile (p : Nat) : List Byte := beBytes 2 p

/-- TABLE SEEK: table, channel, index (R189). -/
def readTableSeek : List Byte → Option (TableId × Nat × Nat)
  | [t, ch, i0, i1] =>
    match readTable t with
    | some tbl => some (tbl, ch.toNat, value16 i0 i1)
    | none => none
  | _ => none

def writeTableSeek (t : TableId) (ch i : Nat) : List Byte := beBytes 1 t.code ++ beBytes 1 ch ++ beBytes 2 i

/-- TABLE GET: a count of 1 .. 64 (R191). -/
def readTableGet : List Byte → Option Nat
  | [n] => if 1 ≤ n.toNat ∧ n.toNat ≤ 64 then some n.toNat else none
  | _ => none

def writeTableGet (n : Nat) : List Byte := beBytes 1 n

/-- DIRECTORY GET: a starting station code 0 .. 16383 and a channel 0 .. 5 (R129). -/
def readDirectoryGet : List Byte → Option (Nat × Fin 6)
  | [s0, s1, ch] =>
    if h : ch.toNat < 6 then
      if value16 s0 s1 ≤ 16383 then some (value16 s0 s1, ⟨ch.toNat, h⟩) else none
    else none
  | _ => none

def writeDirectoryGet (station : Nat) (ch : Fin 6) : List Byte := beBytes 2 station ++ beBytes 1 ch.val

/-! ### Items of TABLE PUT (section 10.6) -/

/-- Bytes of a PUT item of each table. -/
def TableId.putSize : TableId → Nat
  | .classes => 13 | .preambles => 17 | .profileCurrent => 4 | .profilePrevious => 4 | .profileMeta => 4

/-- Bytes of a GET item of each table. -/
def TableId.getSize : TableId → Nat
  | .classes => 13 | .preambles => 17 | .profileCurrent => 4 | .profilePrevious => 5 | .profileMeta => 13

/-- The four quadrants of a byte, symbol 0 in its top bits. -/
def quadrantsOf (b : Byte) : List Quadrant :=
  [b.extractLsb' 6 2, b.extractLsb' 4 2, b.extractLsb' 2 2, b.extractLsb' 0 2]

/-- A CLASS item as carried, before the clamping of R27; a valid mark, modulation or preamble id outside its set is
malformed. -/
def readClassItem : List Byte → Option PutItem
  | [v, m, p, lp, w, rho, mt, mk, g, gate, f0, f1, f2] =>
    if h : p.toNat < 8 then
      match readBool v, readModulation m with
      | some valid, some modu =>
        some (.classEntry ⟨valid, modu, ⟨p.toNat, h⟩, lp.toNat, w.toNat, rho.toNat, mt.toNat, mk.toNat, g.toNat,
          gate.toNat, beValue [f0, f1, f2]⟩)
      | _, _ => none
    else none
  | _ => none

/-- A PREAMBLE item: a length of 0 or 8 .. 64 and that many quadrants; a bit beyond them is unused and must be 0
(R30, R197). -/
def readPatternItem : List Byte → Option PutItem
  | len :: bytes =>
    let qs := bytes.flatMap quadrantsOf
    if bytes.length = 16 ∧ (len.toNat = 0 ∨ (8 ≤ len.toNat ∧ len.toNat ≤ 64)) ∧
        (qs.drop len.toNat).all (· == 0#2) then
      some (.pattern (qs.take len.toNat))
    else none
  | [] => none

/-- One coefficient. -/
def readCoefItem : List Byte → Option PutItem
  | [r0, r1, i0, i1] => some (.coefficient ⟨r0 ++ r1, i0 ++ i1⟩)
  | _ => none

/-- c, b and the revert limit (R125). -/
def readMetaItem : List Byte → Option PutItem
  | [c0, c1, b, rl] => some (.profileFields (signed16 c0 c1) (signed8 b) rl.toNat)
  | _ => none

/-- One PUT item in the format of a table. -/
def readItem : TableId → List Byte → Option PutItem
  | .classes => readClassItem
  | .preambles => readPatternItem
  | .profileCurrent => readCoefItem
  | .profilePrevious => readCoefItem
  | .profileMeta => readMetaItem

/-- `n` items and nothing after them. -/
def readItems (t : TableId) : Nat → List Byte → Option (List PutItem)
  | 0, [] => some []
  | 0, _ :: _ => none
  | n + 1, bytes =>
    match readItem t (bytes.take t.putSize), readItems t n (bytes.drop t.putSize) with
    | some i, some is => some (i :: is)
    | _, _ => none

/-- TABLE PUT: a count of 1 .. 255 and that many items of the pointer's table (R190). -/
def readTablePut (t : TableId) : List Byte → Option (List PutItem)
  | n :: rest => if 1 ≤ n.toNat then readItems t n.toNat rest else none
  | [] => none

/-- A coefficient's four bytes. -/
def coefBytes (c : Coef) : List Byte :=
  [c.re.extractLsb' 8 8, c.re.extractLsb' 0 8, c.im.extractLsb' 8 8, c.im.extractLsb' 0 8]

/-- A CLASS item's 13 bytes, the same for PUT and GET. -/
def classBytes (e : ClassEntry) : List Byte :=
  [boolByte e.valid] ++ beBytes 1 e.modulation.code ++ beBytes 1 e.preamble.val ++ beBytes 1 e.lp ++ beBytes 1 e.w ++
    beBytes 1 e.rho ++ beBytes 1 e.muTrain ++ beBytes 1 e.muTrack ++ beBytes 1 e.guardLen ++ beBytes 1 e.gate ++
    beBytes 3 e.floor

/-- Four quadrants a byte, symbol 0 in the top bits; missing ones are 0. -/
def packQuadrants : Nat → List Quadrant → List Byte
  | 0, _ => []
  | n + 1, qs =>
    (((qs.getD 0 0#2 ++ qs.getD 1 0#2) ++ qs.getD 2 0#2) ++ qs.getD 3 0#2) :: packQuadrants n (qs.drop 4)

/-- A PREAMBLE item's 17 bytes, the same for PUT and GET. -/
def patternBytes (qs : List Quadrant) : List Byte := beBytes 1 qs.length ++ packQuadrants 16 qs

/-- The bytes of a PUT item. -/
def writeItem : PutItem → List Byte
  | .classEntry e => classBytes e
  | .pattern qs => patternBytes qs
  | .coefficient c => coefBytes c
  | .profileFields c b rl => beSigned 2 c ++ beSigned 1 b ++ beBytes 1 rl

def writeTablePut (items : List PutItem) : List Byte := beBytes 1 items.length ++ items.flatMap writeItem

/-! ### Frames (section 10.1) -/

/-- Eight steps of the check sequence's register, the bits of a byte taken least significant first. -/
def crcSteps : Nat → BitVec 32 → BitVec 32
  | 0, c => c
  | n + 1, c => crcSteps n (if c.getLsbD 0 then (c >>> 1) ^^^ 0xEDB88320#32 else c >>> 1)

/-- The 32-bit cyclic redundancy check of Ethernet: generator 0x04C11DB7 (0xEDB88320 with its bits reversed, since the
bits of each byte go least significant first), preset to all ones, complemented (section 10.1). -/
def crc32 (bytes : List Byte) : BitVec 32 :=
  ~~~ (bytes.foldl (fun c b => crcSteps 8 (c ^^^ b.setWidth 32)) 0xFFFFFFFF#32)

/-- The four bytes of the check sequence as the link carries them, the register's least significant byte first
(PRESUMED: Ethernet's own order). -/
def checkBytes (bytes : List Byte) : List Byte := (bytes32 (crc32 bytes)).reverse

/-- The parts of a frame that section 10.1 lays out. -/
structure Frame where
  destination : BitVec 48
  source : BitVec 48
  carry : Nat
  messageBytes : List Byte
  payloadLength : Nat
  deriving DecidableEq, Repr

/-- An address is a group address when the least significant bit of its first byte is 1 (section 10.1). -/
def isGroupAddress (a : BitVec 48) : Bool := a.getLsbD 40

/-- A node-link frame with a correct check sequence, an individual destination address and a carry count of 0;
`none` for every other frame (R183). The room of the inbound buffer is tested elsewhere. -/
def readFrame (f : List Byte) : Option Frame :=
  let body := f.take (f.length - 4)
  let payload := body.drop 14
  let destination := BitVec.ofNat 48 (beValue (body.take 6))
  let carry := beValue (payload.take 2)
  if f.length = body.length + 4 ∧ body.length = payload.length + 14 ∧
      Config.payloadMin ≤ payload.length ∧ payload.length ≤ Config.payloadMax ∧
      f.drop (f.length - 4) = checkBytes body ∧
      isGroupAddress destination = false ∧
      beValue ((body.drop 12).take 2) = Config.linkType ∧
      carry = 0 then
    some { destination := destination, source := BitVec.ofNat 48 (beValue ((body.drop 6).take 6)),
           carry := carry, messageBytes := payload.drop 2, payloadLength := payload.length }
  else none

/-- A frame of the part: addresses, link type, payload padded to 46 bytes, check sequence (section 10.1, R188). -/
def writeFrame (destination source : BitVec 48) (carry : Nat) (messageBytes : List Byte) : List Byte :=
  let content := beBytes 2 carry ++ messageBytes
  let payload := content ++ List.replicate (Config.payloadMin - content.length) 0#8
  let body := beBytes 6 destination.toNat ++ beBytes 6 source.toNat ++ beBytes 2 Config.linkType ++ payload
  body ++ checkBytes body

/-- The messages of a payload, after its carry count, in order (R184). Fewer than 4 bytes or a kind byte of 0 end the
messages; an unreadable header discards the rest. `n` bounds the number of messages. -/
def separateMessages : Nat → List Byte → List Message
  | n + 1, k :: t :: h :: l :: rest =>
    if k = 0#8 then []
    else if value16 h l < 4 ∨ value16 h l - 4 > rest.length then []
    else ⟨k, t, rest.take (value16 h l - 4)⟩ :: separateMessages n (rest.drop (value16 h l - 4))
  | _, _ => []

/-- The bytes of a message with its header. -/
def writeMessage (m : Message) : List Byte := [m.kind, m.tag] ++ beBytes 2 (m.body.length + 4) ++ m.body

/-! ### The table of operations -/

/-- The command that a word spells by the table's bits. No row of the table of operations gives bits (its rows are
operations and events), so no word spells one. -/
def decodeTableWord (_nbits _w : Nat) : Option Instr := none

end Sys2Proof
end

