-- ==== Sys2Proof/Machine/State.lean ====
section
/-! DEFINITION. Every piece of state the manual gives the PV-6412, as plain data, block by block (section 2.2 of the
scope chapter), with the values after power-on. -/

namespace Sys2Proof.Machine

/-! ### Why a command can stop -/

/-- Reasons a command stops the model. No rule of the manual stops the part, so each is raised by the model alone, on a
term that no sender can send (`WellFormed` refuses it). -/
inductive Fault where
  /-- Raised by a request, TIME MARK or unknown-kind command whose body is longer than a frame can carry (R183, R184).
  Safe: no such message exists. -/
  | oversizedMessage
  /-- Raised by an unknown-kind command whose kind is 0 or one of the inbound kinds (R184, R186). Safe: such a message
  is another command, or padding. -/
  | kindNotUnknown
  deriving DecidableEq, Repr

/-- Refusals. -/
inductive Refusal where
  /-- Raised by an arm of `exec` whose command has no meaning yet; no arm does. Safe. -/
  | notModelled (mnemonic : String)
  deriving DecidableEq, Repr

/-! ### Timebase Unit (section 1.1) -/

/-- Sync state (R4). -/
inductive SyncState where
  | unsynced | synced | holdover
  deriving DecidableEq, Repr

/-- The Timebase Unit's state (table of section 1.1). `markTimeout` is in ms, `holdoverLimit` in s, `stepTolerance` in
ticks. -/
structure Timebase where
  counter : Tick
  sync : SyncState
  lastMark : Tick
  holdoverStart : Tick
  markTimeout : Nat
  holdoverLimit : Nat
  stepTolerance : Nat
  deriving DecidableEq, Repr

/-- R15. -/
def Timebase.reset : Timebase :=
  { counter := 0, sync := .unsynced, lastMark := 0, holdoverStart := 0, markTimeout := 200, holdoverLimit := 8,
    stepTolerance := 8 }

/-! ### Channel Controllers and Grant Queues (sections 2.1 and 3.1) -/

/-- Channel state (section 2.1). -/
inductive ChannelState where
  | off | ready | running | stopping
  deriving DecidableEq, Repr

/-- Input lock (section 2.4). -/
inductive InputLock where
  | lost | locked
  deriving DecidableEq, Repr

/-- A grant as the queue keeps it: its five fields, the values intake derived, the link mark (R35). `armReached` notes
that a change of the counter has reached its arm tick (R2). -/
structure QueuedGrant where
  grant : Grant
  startTick : Tick
  armTick : Tick
  endTick : Tick
  dataCount : Nat
  link : Bool
  armReached : Bool
  deriving DecidableEq, Repr

/-- A channel: its controller's state and settings, its class table, its input lock and its grant queue, head first. -/
structure Channel where
  state : ChannelState
  rate : SymbolRate
  spm : MinislotSize
  epoch : Tick
  disposition : Disposition
  lock : InputLock
  classes : Vector ClassEntry 6
  queue : List QueuedGrant
  deriving DecidableEq, Repr

/-- The power-on values of a class entry (table of section 2.5). -/
def ClassEntry.reset : ClassEntry :=
  { valid := false, modulation := .qpsk, preamble := 0, lp := 8, w := 0, rho := 10, muTrain := 12, muTrack := 16,
    guardLen := 0, gate := 0, floor := 0 }

/-- R33, R55. The lock is what the channel's line shows (DESIGN CHOICE at reset: LOST, log entry 2). -/
def Channel.reset : Channel :=
  { state := .off, rate := .msym1_6, spm := .sym8, epoch := 0, disposition := .header, lock := .lost,
    classes := Vector.replicate 6 ClassEntry.reset, queue := [] }

/-! ### Records, responses, notices (chapter 9) -/

/-- Outcome of a grant (R172). -/
inductive BurstOutcome where
  | complete | shortened | noPreamble | aborted | noLane | missed | noInput
  deriving DecidableEq, Repr

/-- Cause of an abort (section 4.10). -/
inductive AbortCause where
  | channelHalt | timebaseStep | syncLost | inputLost | resetNode
  deriving DecidableEq, Repr

/-- Gate result of a judgement: NONE, PASS or FAIL (R160). -/
inductive GateResult where
  | nothing | pass | fail
  deriving DecidableEq, Repr

/-- The flags of a burst record (R174). -/
structure RecordFlags where
  cold : Bool
  guest : Bool
  unbound : Bool
  holdover : Bool
  saturated : Bool
  linked : Bool
  forwarded : Bool
  overridden : Bool
  recentred : Bool
  biasLimit : Bool
  truncated : Bool
  deriving DecidableEq, Repr

/-- No flag set. -/
def RecordFlags.clear : RecordFlags :=
  { cold := false, guest := false, unbound := false, holdover := false, saturated := false, linked := false,
    forwarded := false, overridden := false, recentred := false, biasLimit := false, truncated := false }

/-- Error and reference sums and their count (section 6.7). -/
structure Sums where
  err : Nat
  ref : Nat
  n : Nat
  deriving DecidableEq, Repr

/-- Zeroed sums. -/
def Sums.zero : Sums := ⟨0, 0, 0⟩

/-- Measured offset o* and preamble energy (R88). -/
structure Measurement where
  offset : Int
  energy : Nat
  deriving DecidableEq, Repr

/-- The recentre section: D, s and a (R166). -/
structure Recentre where
  dominant : Nat
  shift : Int
  applied : Int
  deriving DecidableEq, Repr

/-- The lane section of a record that a lane emits (R197). `taps` holds for each tap the squared magnitude at preload
and at the record. -/
structure LaneSection where
  profile : Option (Fin 384)
  bias : Int
  chain : Sums
  chainMer : Nat
  windowOpen : Tick
  searchEnd : Tick
  taps : List (Nat × Nat)
  deriving DecidableEq, Repr

/-- A burst record (section 9.2). A group that is absent is `none`; `symbols` holds pairs of level indices. -/
structure BurstRecord where
  channel : Fin 6
  cls : Fin 6
  modulation : Modulation
  outcome : BurstOutcome
  cause : Option AbortCause
  station : Nat
  start : BitVec 32
  counter : Tick
  flags : RecordFlags
  gate : Option GateResult
  lane : Option (Fin 12)
  laneSection : Option LaneSection
  measurement : Option Measurement
  sums : Option Sums
  recentre : Option Recentre
  symbols : Option (List (Nat × Nat))
  ranging : Option CoefVector
  deriving DecidableEq, Repr

/-- Status of a response (section 10.6). -/
inductive Status where
  | ok | clamped | endReached | malformed | unknownKind | badChannel | channelState | notSynced
  | badClass | badLength | grantLate | grantOrder | grantChain | queueFull
  | tableFull | keyExists | notBound | inUse | badIndex
  deriving DecidableEq, Repr

/-- A response: the request's tag and kind, a status, and the bytes of its kind's fields (R186). -/
structure Response where
  tag : Byte
  kind : Byte
  status : Status
  fields : List Byte
  deriving DecidableEq, Repr

/-- A directory key: station code and channel (R127). -/
structure Key where
  station : Nat
  channel : Fin 6
  deriving DecidableEq, Repr

/-- What a notice reports, with the fields of its kind (table of section 9.5). -/
inductive NoticeEvent where
  | syncRegained (counter : Tick)
  | syncHoldover (start : Tick)
  | syncLost (start : Tick)
  | timebaseStep (d : Int)
  | profileStale (profile : Fin 384) (key : Option Key)
  | profileReverted (profile : Fin 384) (key : Option Key)
  deriving DecidableEq, Repr

/-- A notice (R180). -/
structure Notice where
  event : NoticeEvent
  lost : Bool
  counter : Tick
  deriving DecidableEq, Repr

/-- An item of the output queue (R177). -/
inductive OutItem where
  | record (r : BurstRecord)
  | response (r : Response)
  | notice (n : Notice)
  deriving DecidableEq, Repr

/-- The Record Builder's output queue and marks (section 9.4). `partSent` counts the bytes of the first item already
sent (R188). `sentFrame` is what the transmit pair last carried, the model's own view of that pin. -/
structure OutputQueue where
  items : List OutItem
  partSent : Nat
  dropMark : Bool
  noticeLoss : Bool
  sentFrame : List Byte
  deriving DecidableEq, Repr

/-- R182, R196. -/
def OutputQueue.reset : OutputQueue :=
  { items := [], partSent := 0, dropMark := false, noticeLoss := false, sentFrame := [] }

/-! ### Reception lanes (section 4.1) -/

/-- Lane state (section 4.2). -/
inductive LaneState where
  | free | armed | searching | training | tracking | closing
  deriving DecidableEq, Repr

/-- A lane's role toward a profile (section 8.1). -/
inductive Role where
  | none
  | holder (p : Fin 384)
  | claim (p : Fin 384)
  | guest (p : Fin 384)
  | coldGuest (p : Option (Fin 384))
  deriving DecidableEq, Repr

/-- A decided symbol in the member list: its position, level indices and energies (R105). -/
structure Symbol where
  position : Nat
  i : Nat
  q : Nat
  err : Nat
  ref : Nat
  deriving DecidableEq, Repr

/-- A lane (table of section 4.1). Positions count from preamble symbol 0 of the chain's first grant; `base` is the
current grant's first position and `continued` says that it has no preamble of its own (R65). `firstPos` is the first
buffered position against s0 (R59). `offset` and `halfWidth` fix the candidate set at allocation, with `preamble` and
`lcorr`, the reference symbols and the correlation length (R81). `nextPos` is the next symbol position to process
(R60), `lowCount` and `lowStart` are the energy watch (R69). `windowReached`, `searchReached` and `endReached` note that
a change of the counter has reached the window-open, the search end and the end tick (R2, R62). `preload` is the vector
the lane left ARMED with (R197), `record` the record under construction (R71). -/
structure Lane where
  state : LaneState
  grant : QueuedGrant
  channel : Fin 6
  cls : ClassEntry
  offset : Int
  halfWidth : Nat
  windowOpen : Tick
  searchEnd : Tick
  role : Role
  vec : CoefVector
  bias : Int
  preload : CoefVector
  measurement : Option Measurement
  firstPos : Int
  preamble : List Quadrant
  lcorr : Nat
  buffer : List Sample
  nextPos : Nat
  base : Nat
  continued : Bool
  symbols : List Symbol
  member : Sums
  chain : Sums
  lowCount : Nat
  lowStart : Nat
  saturated : Bool
  holdoverMark : Bool
  forwarded : Bool
  overridden : Bool
  cold : Bool
  guest : Bool
  unbound : Bool
  windowReached : Bool
  searchReached : Bool
  endReached : Bool
  closeCount : Nat
  record : Option BurstRecord
  deriving DecidableEq, Repr

/-- The zero coefficient. -/
def Coef.zero : Coef := ⟨0, 0⟩

/-- The default vector: tap 6 is (16384, 0), every other tap (0, 0) (section 6.1). -/
def defaultVector : CoefVector := (Vector.replicate 24 Coef.zero).set 6 ⟨16384, 0⟩

/-- No grant: what a FREE lane's grant field holds. -/
def QueuedGrant.none : QueuedGrant :=
  { grant := { station := 0, start := 0, length := 0, cls := 0, ranging := false, chain := false, noWriteback := false },
    startTick := 0, armTick := 0, endTick := 0, dataCount := 0, link := false, armReached := false }

/-- A FREE lane (R79, R99, R119). -/
def Lane.idle : Lane :=
  { state := .free, grant := QueuedGrant.none, channel := 0, cls := ClassEntry.reset, offset := 0, halfWidth := 0,
    windowOpen := 0, searchEnd := 0, role := .none, vec := defaultVector, bias := 0, preload := defaultVector,
    measurement := Option.none, firstPos := 0, preamble := [], lcorr := 0, buffer := [], nextPos := 0, base := 0,
    continued := false, symbols := [], member := Sums.zero, chain := Sums.zero, lowCount := 0, lowStart := 0, saturated := false, holdoverMark := false,
    forwarded := false, overridden := false, cold := false, guest := false, unbound := false, windowReached := false,
    searchReached := false, endReached := false, closeCount := 0, record := Option.none }

/-! ### Profile Table, Station Directory, Profile Ageing Sweep (chapter 7) -/

/-- Profile state (section 7.1). -/
inductive ProfileState where
  | free | bound | stale | retiring
  deriving DecidableEq, Repr

/-- A profile record (table of section 7.1). `key` is its station code and channel, present in BOUND and STALE. -/
structure Profile where
  state : ProfileState
  key : Option Key
  current : CoefVector
  previous : Option CoefVector
  offset : Int
  bias : Int
  age : Nat
  failCount : Nat
  revertLimit : Nat
  holder : Option (Fin 12)
  claim : Option (Fin 12)
  overridden : Bool
  lastMer : Option Nat
  deriving DecidableEq, Repr

/-- The values of a return to FREE (R134, R144). -/
def Profile.free : Profile :=
  { state := .free, key := Option.none, current := defaultVector, previous := Option.none, offset := 0, bias := 0,
    age := 0, failCount := 0, revertLimit := 3, holder := Option.none, claim := Option.none, overridden := false,
    lastMer := Option.none }

/-- A directory entry (R127). -/
structure DirEntry where
  key : Key
  profile : Fin 384
  deriving DecidableEq, Repr

/-- The Profile Ageing Sweep (section 7.4). `ageingPeriod` is in s. `visitReached` notes that a change of the counter
has reached the next-visit tick (R2). -/
structure Sweep where
  pointer : Fin 384
  nextVisit : Tick
  visitReached : Bool
  ageingPeriod : Nat
  ageLimit : Nat
  deriving DecidableEq, Repr

/-- R144. -/
def Sweep.reset : Sweep :=
  { pointer := 0, nextVisit := 4000000, visitReached := false, ageingPeriod := 60, ageLimit := 10 }

/-! ### Node Link Interface (chapter 10) -/

/-- The table access pointer (section 10.3). -/
structure AccessPointer where
  table : TableId
  channel : Nat
  index : Nat
  deriving DecidableEq, Repr

/-- A frame in the inbound buffer: the payload bytes it occupies and its messages still to be taken (R185). -/
structure InboundFrame where
  payloadLength : Nat
  messages : List Message
  deriving DecidableEq, Repr

/-- A TABLE PUT or TABLE GET under way: each of its items is an event of its own (R190, R191). -/
inductive Transfer where
  | put (tag : Byte) (left : List PutItem) (moved : Nat) (clamped : Bool)
  | get (tag : Byte) (start : AccessPointer) (left : Nat) (moved : Nat) (got : List Byte)
  deriving DecidableEq, Repr

/-- The Node Link Interface's state: inbound buffer, recorded addresses (the headend's and the part's own), access
pointer, PUT or GET under way. `holding` says that the message at the head is held for room for its response (R179). -/
structure NodeLink where
  inbound : List InboundFrame
  holding : Bool
  headend : Option (BitVec 48)
  own : Option (BitVec 48)
  pointer : AccessPointer
  transfer : Option Transfer
  deriving DecidableEq, Repr

/-- R196. -/
def NodeLink.reset : NodeLink :=
  { inbound := [], holding := false, headend := Option.none, own := Option.none,
    pointer := { table := .classes, channel := 0, index := 0 }, transfer := Option.none }

/-! ### The machine -/

/-- The whole state: the reset pin, the twelve blocks, and the queue of commands that are waiting, first in first out. -/
structure State where
  resetHeld : Bool
  timebase : Timebase
  channels : Vector Channel 6
  patterns : Vector (List Quadrant) 8
  lanes : Vector Lane 12
  profiles : Vector Profile 384
  directory : List DirEntry
  sweep : Sweep
  output : OutputQueue
  link : NodeLink
  pending : List Instr
  deriving DecidableEq, Repr

/-- The values after power-on (R15, R33, R55, R79, R99, R119, R144, R169, R182, R196), with RESET_N released (DESIGN
CHOICE, log entry 1). -/
def State.reset : State :=
  { resetHeld := false, timebase := Timebase.reset, channels := Vector.replicate 6 Channel.reset,
    patterns := Vector.replicate 8 [], lanes := Vector.replicate 12 Lane.idle,
    profiles := Vector.replicate 384 Profile.free, directory := [], sweep := Sweep.reset,
    output := OutputQueue.reset, link := NodeLink.reset, pending := [] }

end Sys2Proof.Machine
end

