-- ==== Sys2Proof/Machine/Ops.lean ====
section
/-! DEFINITION. The shared operations: access to channels, lanes, profiles and tables; tick arithmetic and comparison;
the numbers of section 3.2; which lanes serve a channel. -/

namespace Sys2Proof.Machine

/-! ### Access -/

/-- All lanes in ascending number (R56, R77). -/
def laneIds : List (Fin 12) := [0, 1, 2, 3, 4, 5, 6, 7, 8, 9, 10, 11]

/-- All channels in ascending number. -/
def channelIds : List (Fin 6) := [0, 1, 2, 3, 4, 5]

def State.lane (s : State) (l : Fin 12) : Lane := s.lanes[l]
def State.setLane (s : State) (l : Fin 12) (x : Lane) : State := { s with lanes := s.lanes.set l x }
def State.chan (s : State) (ch : Fin 6) : Channel := s.channels[ch]
def State.setChan (s : State) (ch : Fin 6) (c : Channel) : State := { s with channels := s.channels.set ch c }
def State.prof (s : State) (p : Fin 384) : Profile := s.profiles[p]
def State.setProf (s : State) (p : Fin 384) (x : Profile) : State := { s with profiles := s.profiles.set p x }
def State.setTimebase (s : State) (t : Timebase) : State := { s with timebase := t }
def State.setOutput (s : State) (o : OutputQueue) : State := { s with output := o }
def State.setLink (s : State) (n : NodeLink) : State := { s with link := n }
def State.setSweep (s : State) (w : Sweep) : State := { s with sweep := w }
def State.setDirectory (s : State) (d : List DirEntry) : State := { s with directory := d }
def State.setPatterns (s : State) (v : Vector (List Quadrant) 8) : State := { s with patterns := v }

/-- The tick counter. -/
def State.counter (s : State) : Tick := s.timebase.counter

/-- The queue of a channel. -/
def State.queue (s : State) (ch : Fin 6) : List QueuedGrant := (s.chan ch).queue

def State.setQueue (s : State) (ch : Fin 6) (q : List QueuedGrant) : State :=
  s.setChan ch { s.chan ch with queue := q }

def State.setChanState (s : State) (ch : Fin 6) (x : ChannelState) : State :=
  s.setChan ch { s.chan ch with state := x }

/-- The class entry that a grant of the channel names (R29). -/
def State.classOf (s : State) (ch : Fin 6) (g : Grant) : ClassEntry := (s.chan ch).classes[g.cls]

/-- RESET_N held low holds every value at its power-on value, so nothing but its release and the lock lines acts
(R1, R15, R79, R144, R182, R196). -/
def State.unlessReset (s : State) (f : State → State) : State := if s.resetHeld then s else f s

/-! ### Ticks (R2, R3) -/

/-- Tick `a` is ahead of tick `b` (R2). -/
def ahead (a b : Tick) : Bool := decide (1 ≤ (a - b).toNat ∧ (a - b).toNat ≤ 2 ^ 31 - 1)

/-- Tick `x` is reached: it is at or behind the counter (R2). -/
def State.reached (s : State) (x : Tick) : Bool := !ahead x s.counter

/-- A signed number of ticks added with the wrap discipline (R3). -/
def addTicks (t : Tick) (k : Int) : Tick := t + BitVec.ofInt 32 k

/-- tps: ticks per symbol (section 3.1). -/
def tps : SymbolRate → Nat
  | .msym1_6 => 16 | .msym3_2 => 8 | .msym6_4 => 4

/-- Ticks of a minislot (section 1.2). -/
def Channel.minislotTicks (c : Channel) : Nat := c.spm.spm * tps c.rate

/-- The tick at which minislot `m` of the channel begins (R3). -/
def Channel.minislotTick (c : Channel) (m : BitVec 32) : Tick := c.epoch + m * BitVec.ofNat 32 c.minislotTicks

/-- `q` quarter-symbols of the channel in ticks (R3). -/
def Channel.quarters (c : Channel) (q : Int) : Int := q * ((tps c.rate / 4 : Nat) : Int)

/-- `k` symbols of the channel in ticks (R3). -/
def Channel.symbolTicks (c : Channel) (k : Nat) : Nat := k * tps c.rate

/-! ### Numbers (section 3.2) -/

/-- Clamp to a range; also saturation at a range's limits. -/
def clampInt (lo hi v : Int) : Int := max lo (min hi v)

def clampNat (lo hi v : Nat) : Nat := max lo (min hi v)

/-- Round-shift by `n`: floor(v / 2^n + 1/2). -/
def roundShift (n : Nat) (v : Int) : Int := (v + 2 ^ (n - 1)) / 2 ^ n

end Sys2Proof.Machine

namespace Sys2Proof

/-- Squared magnitude. -/
def Cx.sq (c : Cx) : Nat := (c.re * c.re + c.im * c.im).toNat

/-- The complex product of section 3.2. -/
def Cx.mul (a b : Cx) : Cx := ⟨a.re * b.re - a.im * b.im, a.re * b.im + a.im * b.re⟩

def Cx.add (a b : Cx) : Cx := ⟨a.re + b.re, a.im + b.im⟩

def Cx.sub (a b : Cx) : Cx := ⟨a.re - b.re, a.im - b.im⟩

def Cx.conj (a : Cx) : Cx := ⟨a.re, -a.im⟩

def Cx.zero : Cx := ⟨0, 0⟩

end Sys2Proof

namespace Sys2Proof.Machine

/-- The QPSK point of a quadrant (section 2.6). -/
def quadrantPoint (q : Quadrant) : Cx :=
  match q.toNat with
  | 0 => ⟨1024, 1024⟩
  | 1 => ⟨-1024, 1024⟩
  | 2 => ⟨-1024, -1024⟩
  | _ => ⟨1024, -1024⟩

/-! ### Lanes and channels -/

/-- The lane serves the channel: it is not FREE and its grant is the channel's (R56). -/
def State.serves (s : State) (l : Fin 12) (ch : Fin 6) : Bool :=
  (s.lane l).state != .free && (s.lane l).channel == ch

/-- The lanes serving a channel, in ascending number. -/
def State.lanesOf (s : State) (ch : Fin 6) : List (Fin 12) := laneIds.filter (s.serves · ch)

/-- The lane is ARMED, SEARCHING, TRAINING or TRACKING (R41, R49, R150). -/
def LaneState.receiving : LaneState → Bool
  | .armed | .searching | .training | .tracking => true
  | .free | .closing => false

/-- A STOPPING channel with an empty queue and no lane becomes READY (R22). -/
def State.settle (s : State) (ch : Fin 6) : State :=
  if (s.chan ch).state = .stopping ∧ s.queue ch = [] ∧ s.lanesOf ch = [] then s.setChanState ch .ready else s

/-- The FREE lanes, in ascending number. -/
def State.freeLanes (s : State) : List (Fin 12) := laneIds.filter fun l => (s.lane l).state == .free

/-- The lowest-numbered FREE lane (R56) of the lanes that the arming may take, in ascending number: all of them, or the
ones that R8 leaves to the armings of a step. -/
def State.freeLane (s : State) (pool : List (Fin 12)) : Option (Fin 12) :=
  pool.find? fun l => (s.lane l).state == .free

/-! ### Station Directory (section 7.2) -/

/-- Ascending key order: by station code first, then by channel (R129). -/
def Key.lt (a b : Key) : Bool :=
  decide (a.station < b.station ∨ (a.station = b.station ∧ a.channel.val < b.channel.val))

/-- The profile that the directory names for a key (R128). -/
def State.lookup (s : State) (k : Key) : Option (Fin 384) :=
  (s.directory.find? (fun e => e.key == k)).map (·.profile)

/-- One more entry, in key order. -/
def insertEntry (e : DirEntry) : List DirEntry → List DirEntry
  | [] => [e]
  | x :: xs => if Key.lt e.key x.key then e :: x :: xs else x :: insertEntry e xs

/-- The directory without a key's entry. -/
def removeEntry (k : Key) (d : List DirEntry) : List DirEntry := d.filter (fun e => e.key != k)

/-- The profile of a grant: none for an open grant, else the directory's (R46, R128). -/
def State.grantProfile (s : State) (ch : Fin 6) (g : Grant) : Option (Fin 384) :=
  if g.station = 16383 then none else s.lookup ⟨g.station, ch⟩

/-! ### Changes of the counter -/

/-- The note that a waited-for tick has been reached, after the counter has changed: once set it stays (R2). -/
def noted (note : Bool) (x counter : Tick) : Bool := note || !ahead x counter

/-- A lane that is not FREE notes which of its ticks a change of the counter reaches (R2, R61, R62, R63). -/
def Lane.noteTicks (x : Lane) (counter : Tick) : Lane :=
  if x.state = .free then x else
    { x with windowReached := noted x.windowReached x.windowOpen counter
             searchReached := noted x.searchReached x.searchEnd counter
             endReached := noted x.endReached x.grant.endTick counter }

/-- A queued grant notes that a change of the counter reaches its arm tick (R2, R45). -/
def QueuedGrant.noteArm (g : QueuedGrant) (counter : Tick) : QueuedGrant :=
  { g with armReached := noted g.armReached g.armTick counter }

/-- A queued grant after a step: its arm tick is judged anew, against the loaded counter (R8). -/
def QueuedGrant.judgeArm (g : QueuedGrant) (counter : Tick) : QueuedGrant :=
  { g with armReached := !ahead g.armTick counter }

/-- The sweep notes that a change of the counter reaches its next-visit tick (R2, R138). -/
def Sweep.noteVisit (w : Sweep) (counter : Tick) : Sweep :=
  { w with visitReached := noted w.visitReached w.nextVisit counter }

/-- Every queued grant of a channel changed alike. -/
def Channel.mapQueue (c : Channel) (f : QueuedGrant → QueuedGrant) : Channel := { c with queue := c.queue.map f }

/-- One change of the counter, a regular count, a one-tick move or a load: the ticks that it reaches are noted (R2). -/
def State.setCounter (s : State) (t : Tick) : State :=
  { s with timebase := { s.timebase with counter := t }
           channels := s.channels.map fun c => c.mapQueue (·.noteArm t)
           lanes := s.lanes.map (·.noteTicks t)
           sweep := s.sweep.noteVisit t }

/-- The load of a step: every queued grant is judged against the loaded counter from then on (R8). -/
def State.stepCounter (s : State) (t : Tick) : State :=
  let s := s.setCounter t
  { s with channels := s.channels.map fun c => c.mapQueue (·.judgeArm t) }

end Sys2Proof.Machine
end

