-- ==== Sys2Proof/Machine/Flags.lean ====
section
/-! DEFINITION. The flag computations of the part: the flag word and presence byte of a burst record (section 10.6),
and the marks byte of PROFILE META. -/

namespace Sys2Proof.Machine

/-- A number from its bits, bit 0 first. -/
def bitsValue : List Bool → Nat
  | [] => 0
  | b :: bs => (if b then 1 else 0) + 2 * bitsValue bs

/-- The flags field: bit 0 upward COLD, GUEST, UNBOUND, HOLDOVER, SATURATED, LINKED, FORWARDED, OVERRIDDEN,
RECENTRED, BIAS_LIMIT, OUTPUT_TRUNCATED (section 10.6). -/
def RecordFlags.value (f : RecordFlags) : Nat :=
  bitsValue [f.cold, f.guest, f.unbound, f.holdover, f.saturated, f.linked, f.forwarded, f.overridden, f.recentred,
    f.biasLimit, f.truncated]

/-- The presence byte: bit 0 upward lane section, measurements, member sums, recentre section, symbol list, ranging
section (section 10.6). -/
def BurstRecord.presence (r : BurstRecord) : Nat :=
  bitsValue [r.laneSection.isSome, r.measurement.isSome, r.sums.isSome, r.recentre.isSome, r.symbols.isSome,
    r.ranging.isSome]

/-- The marks byte of PROFILE META: overridden, previous present, last MER present (section 10.6). -/
def Profile.marks (p : Profile) : Nat := bitsValue [p.overridden, p.previous.isSome, p.lastMer.isSome]

/-- The flags of a record without a lane: HOLDOVER when the state is HOLDOVER at the event, no other (R12, R174). -/
def State.lanelessFlags (s : State) : RecordFlags :=
  { RecordFlags.clear with holdover := s.timebase.sync == .holdover }

/-- The flags a lane's record has when its content is fixed (R174). HOLDOVER, FORWARDED and OVERRIDDEN join at the
emission. -/
def Lane.fixedFlags (x : Lane) (linked : Bool) : RecordFlags :=
  { RecordFlags.clear with cold := x.cold, guest := x.guest, unbound := x.unbound, saturated := x.saturated,
                           linked := linked }

/-- The flags as the record leaves the lane (R12, R71, R174). -/
def Lane.emittedFlags (x : Lane) (f : RecordFlags) : RecordFlags :=
  { f with holdover := x.holdoverMark, saturated := x.saturated, forwarded := x.forwarded,
           overridden := x.overridden }

/-- RECENTRED when a is not 0, BIAS_LIMIT when a differs from s (R166). -/
def RecordFlags.withRecentre (f : RecordFlags) (r : Recentre) : RecordFlags :=
  { f with recentred := r.applied != 0, biasLimit := r.applied != r.shift }

end Sys2Proof.Machine
end

