-- ==== Sys2Proof/Machine/Formats.lean ====
section
/-! DEFINITION. The bytes of what the part sends: burst records, responses, notices, and the items of TABLE GET
(section 10.6). -/

namespace Sys2Proof.Machine

/-! ### Codes -/

def BurstOutcome.code : BurstOutcome → Nat
  | .complete => 1 | .shortened => 2 | .noPreamble => 3 | .aborted => 4 | .noLane => 5 | .missed => 6 | .noInput => 7

/-- RESET_NODE does not appear as a cause (R172). -/
def AbortCause.code : AbortCause → Nat
  | .channelHalt => 1 | .timebaseStep => 2 | .syncLost => 3 | .inputLost => 4 | .resetNode => 0

def causeCode : Option AbortCause → Nat
  | none => 0
  | some c => c.code

def gateCode : Option GateResult → Nat
  | none => 0
  | some .nothing => 1
  | some .pass => 2
  | some .fail => 3

def Status.code : Status → Nat
  | .ok => 0x00 | .clamped => 0x01 | .endReached => 0x02 | .malformed => 0x10 | .unknownKind => 0x11
  | .badChannel => 0x20 | .channelState => 0x21 | .notSynced => 0x22
  | .badClass => 0x30 | .badLength => 0x31 | .grantLate => 0x32 | .grantOrder => 0x33 | .grantChain => 0x34
  | .queueFull => 0x35 | .tableFull => 0x40 | .keyExists => 0x41 | .notBound => 0x42 | .inUse => 0x43 | .badIndex => 0x44

def SyncState.code : SyncState → Nat
  | .unsynced => 0 | .synced => 1 | .holdover => 2

def ChannelState.code : ChannelState → Nat
  | .off => 0 | .ready => 1 | .running => 2 | .stopping => 3

def ProfileState.code : ProfileState → Nat
  | .free => 0 | .bound => 1 | .stale => 2 | .retiring => 3

/-! ### The MER index (section 6.8) -/

/-- The largest g in 0 .. `g` with err × 2^g at most ref, 0 when there is none. -/
def merFrom (err ref : Nat) : Nat → Nat
  | 0 => 0
  | g + 1 => if err * 2 ^ (g + 1) ≤ ref then g + 1 else merFrom err ref g

/-- The MER index of a pair of sums (R117). -/
def merIndex (err ref : Nat) : Nat := if err = 0 then 31 else if ref < err then 0 else merFrom err ref 31

def Sums.mer (x : Sums) : Nat := merIndex x.err x.ref

/-! ### The symbol list (R175) -/

/-- Bits per symbol (section 6.3). -/
def bitsPerSymbol : Modulation → Nat
  | .qpsk => 2 | .qam16 => 4 | .qam64 => 6 | .qam256 => 8

/-- The `n` low bits of a number, most significant first. -/
def lowBits : Nat → Nat → List Bool
  | 0, _ => []
  | n + 1, v => (v / 2 ^ n % 2 == 1) :: lowBits n v

/-- A number from its bits, most significant first. -/
def bitsNumber (l : List Bool) : Nat := l.foldl (fun a b => 2 * a + (if b then 1 else 0)) 0

/-- Bits packed from the most significant bit of the first byte on, the last byte padded with zero bits. -/
def packBits : List Bool → List Byte
  | a :: b :: c :: d :: e :: f :: g :: h :: rest => BitVec.ofNat 8 (bitsNumber [a, b, c, d, e, f, g, h]) :: packBits rest
  | [] => []
  | l => [BitVec.ofNat 8 (bitsNumber (l ++ List.replicate (8 - l.length) false))]

/-- The symbol list's bytes: each symbol's I index in the upper half of its bits, its Q index in the lower half. -/
def packSymbols (m : Modulation) (l : List (Nat × Nat)) : List Byte :=
  packBits (l.flatMap (fun p => lowBits (bitsPerSymbol m / 2) p.1 ++ lowBits (bitsPerSymbol m / 2) p.2))

/-! ### Burst record -/

/-- The byte or field of an absent quantity. -/
def laneByte : Option (Fin 12) → Nat
  | none => 0xFF
  | some l => l.val

def profileField : Option (Fin 384) → Nat
  | none => 0xFFFF
  | some p => p.val

/-- A coefficient vector in tap order. -/
def vectorBytes (v : CoefVector) : List Byte := v.toList.flatMap coefBytes

/-- Offsets 50 .. 273. -/
def LaneSection.bytes (x : LaneSection) : List Byte :=
  beBytes 2 (profileField x.profile) ++ beSigned 1 x.bias ++ beBytes 1 x.chainMer ++ bytes32 x.windowOpen ++
    bytes32 x.searchEnd ++ beBytes 4 x.chain.n ++ beBytes 8 x.chain.err ++ beBytes 8 x.chain.ref ++
    x.taps.flatMap (fun t => beBytes 4 t.1 ++ beBytes 4 t.2)

/-- The bytes of the symbol list, empty when it is absent. -/
def BurstRecord.listBytes (r : BurstRecord) : List Byte :=
  match r.symbols with
  | none => []
  | some l => packSymbols r.modulation l

/-- Offsets 0 .. 49: the fields of absent groups are 0. -/
def BurstRecord.fixedBytes (r : BurstRecord) : List Byte :=
  beBytes 1 r.channel.val ++ beBytes 1 r.cls.val ++ beBytes 1 r.modulation.code ++ beBytes 1 r.outcome.code ++
    beBytes 2 r.station ++ beBytes 1 (causeCode r.cause) ++ beBytes 1 (gateCode r.gate) ++ bytes32 r.start ++
    bytes32 r.counter ++ beBytes 2 r.flags.value ++ beBytes 1 r.presence ++ beBytes 1 (laneByte r.lane) ++
    beSigned 2 ((r.measurement.map (·.offset)).getD 0) ++ beBytes 1 ((r.sums.map (·.mer)).getD 0) ++
    beBytes 1 ((r.recentre.map (·.dominant)).getD 0) ++ beBytes 4 ((r.measurement.map (·.energy)).getD 0) ++
    beBytes 2 ((r.sums.map (·.n)).getD 0) ++ beSigned 1 ((r.recentre.map (·.shift)).getD 0) ++
    beSigned 1 ((r.recentre.map (·.applied)).getD 0) ++ beBytes 8 ((r.sums.map (·.err)).getD 0) ++
    beBytes 8 ((r.sums.map (·.ref)).getD 0) ++ beBytes 2 r.listBytes.length

/-- A burst record's bytes after its header (section 10.6). -/
def BurstRecord.body (r : BurstRecord) : List Byte :=
  r.fixedBytes ++ ((r.laneSection.map (·.bytes)).getD []) ++ ((r.ranging.map vectorBytes).getD []) ++ r.listBytes

/-! ### Notice -/

/-- Kind code and the six bytes of the kind's fields. -/
def NoticeEvent.code : NoticeEvent → Nat
  | .syncRegained _ => 1 | .syncHoldover _ => 2 | .syncLost _ => 3 | .timebaseStep _ => 4
  | .profileStale _ _ => 5 | .profileReverted _ _ => 6

def keyBytes : Option Key → List Byte
  | none => [0, 0, 0]
  | some k => beBytes 2 k.station ++ beBytes 1 k.channel.val

def NoticeEvent.bytes : NoticeEvent → List Byte
  | .syncRegained t | .syncHoldover t | .syncLost t => bytes32 t ++ [0, 0]
  | .timebaseStep d => beSigned 4 d ++ [0, 0]
  | .profileStale p k | .profileReverted p k => beBytes 2 p.val ++ keyBytes k ++ [0]

def Notice.body (n : Notice) : List Byte :=
  beBytes 1 n.event.code ++ [boolByte n.lost] ++ bytes32 n.counter ++ n.event.bytes

/-! ### Items of the output queue -/

/-- A response's bytes after its header. -/
def Response.body (r : Response) : List Byte := [r.kind] ++ beBytes 1 r.status.code ++ r.fields

/-- An item as the message it is sent as: the outbound tag is the request's for a response, else 0 (R197). -/
def OutItem.message : OutItem → Message
  | .record r => ⟨kindBurstRecord, 0#8, r.body⟩
  | .response r => ⟨kindResponse, r.tag, r.body⟩
  | .notice n => ⟨kindNotice, 0#8, n.body⟩

/-- An item's bytes. -/
def OutItem.bytes (x : OutItem) : List Byte := writeMessage x.message

/-- An item's encoded length, by which the output queue counts (section 9.4). -/
def OutItem.size (x : OutItem) : Nat := x.message.body.length + 4

/-! ### Items of TABLE GET -/

/-- A PROFILE META item (R126). -/
def Profile.metaBytes (p : Profile) : List Byte :=
  beBytes 1 p.state.code ++ beBytes 2 ((p.key.map (·.station)).getD 0) ++
    beBytes 1 ((p.key.map (·.channel.val)).getD 0xFF) ++ beSigned 1 p.offset ++ beSigned 1 p.bias ++ beBytes 1 p.age ++
    beBytes 1 p.failCount ++ beBytes 1 p.revertLimit ++ beBytes 1 (laneByte p.holder) ++ beBytes 1 (laneByte p.claim) ++
    beBytes 1 p.marks ++ beBytes 1 (p.lastMer.getD 0)

/-- A PROFILE PREVIOUS item: the coefficient, or (0, 0) with the ABSENT mark (R126). -/
def previousBytes (v : Option CoefVector) (tap : Fin 24) : List Byte :=
  match v with
  | some v => coefBytes v[tap] ++ [0#8]
  | none => coefBytes Coef.zero ++ [1#8]

end Sys2Proof.Machine
end

