-- ==== Sys2Proof/Machine/Output.lean ====
section
/-! DEFINITION. The Record Builder and the output queue (chapter 9): placing records, responses and notices; the
sending of frames (R188). -/

namespace Sys2Proof.Machine

/-- The fill: the sum of the lengths of the items held (R177). -/
def OutputQueue.fill (o : OutputQueue) : Nat := (o.items.map OutItem.size).sum

/-- Room free below the capacity (R179). -/
def OutputQueue.room (o : OutputQueue) : Nat := Config.outputCapacity - o.fill

/-- A notice, not a record or a response. -/
def OutItem.isNotice : OutItem → Bool
  | .notice _ => true
  | .record _ | .response _ => false

/-- Notices held: the notice queue (R181). -/
def OutputQueue.notices (o : OutputQueue) : Nat := o.items.countP OutItem.isNotice

/-- An item joins at the tail (R177). -/
def OutputQueue.append (o : OutputQueue) (x : OutItem) : OutputQueue := { o with items := o.items ++ [x] }

/-- A record with OUTPUT_TRUNCATED set or clear. -/
def BurstRecord.markTruncated (r : BurstRecord) (b : Bool) : BurstRecord :=
  { r with flags := { r.flags with truncated := b } }

/-- A record without its symbol list. -/
def BurstRecord.withoutList (r : BurstRecord) : BurstRecord := { r with symbols := none }

/-- Placing a burst record: whole, or without its list, or dropped with the drop mark set (R178). -/
def OutputQueue.placeRecord (o : OutputQueue) (r : BurstRecord) : OutputQueue :=
  if o.fill + (OutItem.record r).size ≤ Config.recordLimit then
    { o.append (.record (r.markTruncated o.dropMark)) with dropMark := false }
  else if r.symbols.isSome ∧ o.fill + (OutItem.record r.withoutList).size ≤ Config.recordLimit then
    { o.append (.record (r.withoutList.markTruncated true)) with dropMark := false }
  else { o with dropMark := true }

/-- Placing a response: whenever it fits below the capacity (R179). A request is taken only when its response has
room, so the other case does not arise. -/
def OutputQueue.placeResponse (o : OutputQueue) (r : Response) : OutputQueue :=
  if o.fill + (OutItem.response r).size ≤ Config.outputCapacity then o.append (.response r) else o

/-- Placing a notice, with NOTICES_LOST when the notice-loss mark is set, or dropping it and setting the mark (R180,
R181). -/
def OutputQueue.placeNotice (o : OutputQueue) (counter : Tick) (e : NoticeEvent) : OutputQueue :=
  let n : Notice := { event := e, lost := o.noticeLoss, counter := counter }
  if o.notices < Config.noticeLimit ∧ o.fill + (OutItem.notice n).size ≤ Config.outputCapacity then
    { o.append (.notice n) with noticeLoss := false }
  else { o with noticeLoss := true }

/-- A record handed over and placed at this event, with the counter at the handover (R171, section 10.6). -/
def State.emitRecord (s : State) (r : BurstRecord) : State :=
  s.setOutput (s.output.placeRecord { r with counter := s.counter })

/-- A response handed over and placed (R179). -/
def State.respond (s : State) (m : Message) (status : Status) (fields : List Byte) : State :=
  s.setOutput (s.output.placeResponse { tag := m.tag, kind := m.kind, status := status, fields := fields })

/-- A notice handed over: its counter value is the counter at this event (R180). -/
def State.notify (s : State) (e : NoticeEvent) : State := s.setOutput (s.output.placeNotice s.counter e)

/-! ### Sending (R188) -/

/-- The bytes not yet sent, in order. -/
def OutputQueue.unsent (o : OutputQueue) : List Byte := (o.items.flatMap OutItem.bytes).drop o.partSent

/-- The carry count: what remains of an item partly sent, 0 when none is. -/
def OutputQueue.carry (o : OutputQueue) : Nat :=
  if o.partSent = 0 then 0 else
    match o.items with
    | [] => 0
    | x :: _ => x.size - o.partSent

/-- The items left, and the bytes of the first one sent, after `n` more bytes are sent: an item leaves when its last
byte has been sent (R177, R188). -/
def dropSent : List OutItem → Nat → Nat → List OutItem × Nat
  | [], _, _ => ([], 0)
  | x :: xs, sent, n => if x.size ≤ sent + n then dropSent xs 0 (sent + n - x.size) else (x :: xs, sent + n)

/-- The message bytes of the next frame: up to 1,498 of the unsent bytes, in order. -/
def OutputQueue.frameBytes (o : OutputQueue) : List Byte := o.unsent.take Config.frameMessageBytes

/-- One frame formed and sent (R188). -/
def OutputQueue.sendFrame (o : OutputQueue) (destination source : BitVec 48) : OutputQueue :=
  let left := dropSent o.items o.partSent o.frameBytes.length
  { o with items := left.1, partSent := left.2, sentFrame := writeFrame destination source o.carry o.frameBytes }

/-- The link can send: when the queue holds unsent bytes, one frame goes out. A frame has addresses, which are recorded
from an accepted frame (R183); while none is recorded nothing is sent. -/
def State.sendFrame (s : State) : State :=
  if s.output.items = [] then s else
    match s.link.headend, s.link.own with
    | some destination, some source => s.setOutput (s.output.sendFrame destination source)
    | _, _ => s

end Sys2Proof.Machine
end

