-- ==== Sys2Proof/Machine/Operands.lean ====
section
/-! DEFINITION. The operands of the requests: messages in the inbound buffer, the judgement of form, and passing on
(R183 to R187). -/

namespace Sys2Proof.Machine

/-! ### The inbound buffer -/

/-- Payload bytes the inbound buffer holds (R185). -/
def NodeLink.held (n : NodeLink) : Nat := (n.inbound.map (·.payloadLength)).sum

/-- The message at the head (R185). -/
def NodeLink.head (n : NodeLink) : Option Message :=
  match n.inbound with
  | [] => none
  | f :: _ => f.messages.head?

/-- The frames without the message at their head; a frame's room is freed with its last message (R185). -/
def withoutHead : List InboundFrame → List InboundFrame
  | [] => []
  | f :: fs =>
    match f.messages with
    | _ :: m :: ms => { f with messages := m :: ms } :: fs
    | _ => fs

/-- The head message is gone, and with it the holding of it (R179, R185). -/
def NodeLink.dropHead (n : NodeLink) : NodeLink := { n with inbound := withoutHead n.inbound, holding := false }

/-- The message waits in the inbound buffer. -/
def NodeLink.waits (n : NodeLink) (m : Message) : Bool := n.inbound.any fun f => f.messages.contains m

/-- The payload bytes of a frame with the one message (section 10.1). -/
def framePayload (m : Message) : Nat := max Config.payloadMin (m.body.length + 6)

/-- A message that is commanded and does not wait in the inbound buffer stands for the one message of a frame that
joins it, or that is discarded for want of room (R185; DESIGN CHOICE, log entry 3). -/
def NodeLink.offer (n : NodeLink) (m : Message) : NodeLink :=
  if n.waits m ∨ (n.inbound ≠ [] ∧ Config.inboundCapacity < n.held + framePayload m) then n
  else { n with inbound := n.inbound ++ [{ payloadLength := framePayload m, messages := [m] }] }

/-- A received frame is accepted, and its addresses recorded, or it is discarded whole (R183, R184, R185). -/
def State.receiveFrame (s : State) (bytes : List Byte) : State :=
  match readFrame bytes with
  | none => s
  | some f =>
    if s.link.held + f.payloadLength ≤ Config.inboundCapacity then
      let ms := separateMessages f.messageBytes.length f.messageBytes
      s.setLink { s.link with
        headend := some f.source, own := some f.destination,
        inbound := if ms = [] then s.link.inbound else s.link.inbound ++ [⟨f.payloadLength, ms⟩] }
    else s

/-- FRAME_RECEIVED (R183). -/
def execFrameReceived (frame : List Byte) (s : State) : Host.Outcome State Fault Refusal :=
  .next (s.unlessReset (·.receiveFrame frame))

/-! ### Judging and passing on -/

/-- A message without fields in its response: UNKNOWN_KIND or MALFORMED (R186). Its length is 6. -/
def formResponseRoom : Nat := 6

/-- The message at the head is held until its response has room (R179). -/
def State.hold (s : State) : State := s.setLink { s.link with holding := true }

/-- The message, when it is at the head, is judged for form, and is passed on to its owner `act` when the output queue
has room for the greatest response of its form, `room`; until then it is held (R179, R185, R186). No message is taken
while a PUT or GET is under way. `room` 0 makes no test (TIME MARK). -/
def State.passOn {α : Type} (s : State) (m : Message) (form : Option α) (badForm : Status) (room : Nat)
    (act : State → α → State) : State :=
  if s.link.transfer.isSome ∨ s.link.head ≠ some m then s
  else
    match form with
    | none =>
      if formResponseRoom ≤ s.output.room then (s.setLink s.link.dropHead).respond m badForm [] else s.hold
    | some x => if room ≤ s.output.room then act (s.setLink s.link.dropHead) x else s.hold

/-- A message commanded: its body must fit a frame; while RESET_N is low nothing happens. -/
def takeRequest (m : Message) (take : State → Message → State) (s : State) : Host.Outcome State Fault Refusal :=
  if m.body.length ≤ Config.messageBodyMax then .next (s.unlessReset fun s => take (s.setLink (s.link.offer m)) m)
  else .fault .oversizedMessage

/-- A message of a kind that is not an inbound kind is answered UNKNOWN_KIND (R186). -/
def State.takeUnknown (s : State) (m : Message) : State :=
  s.passOn m (none : Option Unit) .unknownKind formResponseRoom fun s _ => s

/-- UNKNOWN_KIND (R186). -/
def execUnknownKind (kind tag : Byte) (body : List Byte) (s : State) : Host.Outcome State Fault Refusal :=
  if kind = 0#8 ∨ inboundKinds.contains kind then .fault .kindNotUnknown
  else takeRequest ⟨kind, tag, body⟩ State.takeUnknown s

/-! ### The greatest response of each kind (section 10.6) -/

def roomPlain : Nat := 6
def roomHalt : Nat := 7
def roomSchedule : Nat := 8
def roomTablePut : Nat := 11
/-- The response to a GET that returns no item; each byte of the items adds one. -/
def roomTableGetEmpty : Nat := 11
def roomTableGet : Nat := 843
def roomDirectoryGet : Nat := 776
def roomStatusGet : Nat := 44

end Sys2Proof.Machine
end

