-- ==== Sys2Proof/Machine/Equalizer.lean ====
section
/-! DEFINITION. Equalizer and Slicer (chapter 6): the lane's inputs, the filter, the slicer, the error, the adaptation,
the sums, the block energy. Each step acts on one lane. -/

namespace Sys2Proof.Machine

/-! ### Inputs (R59, R92, R101) -/

/-- Main input position of symbol `j` against s0: o* + 4 (j + b) (R60, R92). -/
def Lane.gridPos (x : Lane) (o : Int) (j : Int) : Int := o + 4 * (j + x.bias)

/-- The measured offset, 0 while it is absent. -/
def Lane.offsetFound (x : Lane) : Int := (x.measurement.map (·.offset)).getD 0

/-- The sample at a position: a position before the first buffered one, or one whose sample has not arrived, reads
(0, 0) (R59, R85, R101). -/
def Lane.sampleAt (x : Lane) (pos : Int) : Cx :=
  if pos < x.firstPos then Cx.zero
  else
    match x.buffer[(pos - x.firstPos).toNat]? with
    | some v => v.toCx
    | none => Cx.zero

/-- The input that tap `k` weighs for symbol `j`: the sample at p(j + 6 − k) (R101). -/
def Lane.tapInput (x : Lane) (j : Nat) (k : Nat) : Cx :=
  x.sampleAt (x.gridPos x.offsetFound ((j : Int) + 6 - (k : Int)))

/-! ### Filter (R102, R103) -/

/-- All taps in order. -/
def tapIds : List (Fin 24) := List.finRange 24

/-- The accumulator: the exact sum of the 24 products (R102). -/
def Lane.accumulate (x : Lane) (j : Nat) : Cx :=
  tapIds.foldl (fun acc k => acc.add (x.vec[k].toCx.mul (x.tapInput j k.val))) Cx.zero

/-- One component: round-shifted by 14 and saturated to −2048 .. 2047 (R103). -/
def outputComponent (v : Int) : Int := clampInt (-2048) 2047 (roundShift 14 v)

/-- The equalizer output (R103). -/
def equalized (acc : Cx) : Cx := ⟨outputComponent acc.re, outputComponent acc.im⟩

/-- Saturation changed a component of the output (R103). -/
def outputSaturates (acc : Cx) : Bool :=
  outputComponent acc.re != roundShift 14 acc.re || outputComponent acc.im != roundShift 14 acc.im

/-! ### Slicer (R104, R105) -/

/-- The level step d (section 6.3). -/
def levelStep : Modulation → Int
  | .qpsk => 1024 | .qam16 => 512 | .qam64 => 256 | .qam256 => 128

/-- M, levels per axis (section 6.3). -/
def levels : Modulation → Int
  | .qpsk => 2 | .qam16 => 4 | .qam64 => 8 | .qam256 => 16

/-- floor(v / 2d), limited to −M/2 .. M/2 − 1 (R104). -/
def sliceQuotient (m : Modulation) (v : Int) : Int :=
  clampInt (-(levels m / 2)) (levels m / 2 - 1) (v / (2 * levelStep m))

/-- The decided level of a component: (2q + 1) d (R104). -/
def sliceLevel (m : Modulation) (v : Int) : Int := (2 * sliceQuotient m v + 1) * levelStep m

/-- The level's index: q + M / 2 (R105). -/
def sliceIndex (m : Modulation) (v : Int) : Nat := (sliceQuotient m v + levels m / 2).toNat

def slice (m : Modulation) (y : Cx) : Cx := ⟨sliceLevel m y.re, sliceLevel m y.im⟩

/-! ### Adaptation (R109 to R111) -/

/-- A coefficient component after an increment, saturated (R109). -/
def saturateCoef (v : Int) : Int := clampInt (-32768) 32767 v

/-- The increment of a tap: the product of the error with the input's conjugate, round-shifted (R109). -/
def tapIncrement (shift : Nat) (e x : Cx) : Cx :=
  ⟨roundShift shift (e.mul x.conj).re, roundShift shift (e.mul x.conj).im⟩

/-- The tap's exact sum before saturation (R109). -/
def tapSum (shift : Nat) (e x : Cx) (c : Coef) : Cx := c.toCx.add (tapIncrement shift e x)

/-- The tap after its update (R109). -/
def adaptTap (shift : Nat) (e x : Cx) (c : Coef) : Coef :=
  let v := tapSum shift e x c
  ⟨BitVec.ofInt 16 (saturateCoef v.re), BitVec.ofInt 16 (saturateCoef v.im)⟩

/-- Saturation changed the sum of a component of the tap (R111). -/
def tapSaturates (shift : Nat) (e x : Cx) (c : Coef) : Bool :=
  let v := tapSum shift e x c
  saturateCoef v.re != v.re || saturateCoef v.im != v.im

/-- The adaptation step of symbol `j`: every tap from the same error and its own input; a shift of 0 leaves the vector
as it is (R109, R110, R111). -/
def Lane.adapt (x : Lane) (shift : Nat) (j : Nat) (e : Cx) : Lane :=
  if shift = 0 then x
  else
    { x with
      vec := Vector.ofFn fun k : Fin 24 => adaptTap shift e (x.tapInput j k.val) x.vec[k]
      saturated := x.saturated || tapIds.any fun k => tapSaturates shift e (x.tapInput j k.val) x.vec[k] }

/-! ### Sums (R115) -/

/-- One addition to the member sums and the chain sums (R115). -/
def Sums.plus (x : Sums) (err ref : Nat) : Sums :=
  { err := min Config.sumLimit (x.err + err), ref := min Config.sumLimit (x.ref + ref),
    n := min Config.chainCountLimit (x.n + 1) }

/-- A sum after a removal: one held at its limit stays there (R116). -/
def unheld (limit v d : Nat) : Nat := if v = limit then v else v - d

/-- The sums after a removal of `n` symbols (R116). -/
def Sums.minus (x : Sums) (err ref n : Nat) : Sums :=
  { err := unheld Config.sumLimit x.err err, ref := unheld Config.sumLimit x.ref ref,
    n := unheld Config.chainCountLimit x.n n }

/-! ### One position (R112) -/

/-- A preamble position in TRAINING: filter, error against the pattern symbol, adaptation with μ_train (R64, R107). -/
def Lane.trainSymbol (x : Lane) (j : Nat) : Lane :=
  let acc := x.accumulate j
  let e := (quadrantPoint (x.preamble.getD j 0)).sub (equalized acc)
  Lane.adapt { x with saturated := x.saturated || outputSaturates acc } x.cls.muTrain j e

/-- A data position in TRACKING: filter, decision, error, list and sums, adaptation with μ_track (R66, R108, R112). -/
def Lane.decideSymbol (x : Lane) (j : Nat) : Lane :=
  let acc := x.accumulate j
  let y := equalized acc
  let m := x.cls.modulation
  let decision := slice m y
  let e := decision.sub y
  Lane.adapt { x with
    saturated := x.saturated || outputSaturates acc
    symbols := x.symbols ++ [⟨j, sliceIndex m y.re, sliceIndex m y.im, e.sq, decision.sq⟩]
    member := x.member.plus e.sq decision.sq
    chain := x.chain.plus e.sq decision.sq } x.cls.muTrack j e

/-! ### The data range (R65) -/

/-- L: symbols of the current grant. -/
def Lane.grantSymbols (x : Lane) (spm : Nat) : Nat := x.grant.grant.length * spm

/-- First position of the data range: Lp for a grant with its own preamble, P for a continued one. -/
def Lane.dataStart (x : Lane) : Nat := if x.continued then x.base else x.base + x.cls.lp

/-- Position `j` lies in the current grant's data range. -/
def Lane.inDataRange (x : Lane) (spm j : Nat) : Bool :=
  decide (x.dataStart ≤ j ∧ j + x.cls.guardLen < x.base + x.grantSymbols spm)

/-! ### Block energy (R69, R113, R114) -/

/-- The symbol position whose main input is at `pos`, when there is one. -/
def Lane.symbolAt (x : Lane) (pos : Int) : Option Nat :=
  let d := pos - x.offsetFound
  if d % 4 = 0 ∧ 0 ≤ d / 4 - x.bias then some (d / 4 - x.bias).toNat else none

/-- The first position of the energy block that ends at position `j` of the data range (R69). -/
def Lane.blockEndingAt (x : Lane) (spm j : Nat) : Option Nat :=
  if x.inDataRange spm j ∧ (j - x.dataStart) % Config.blockLength = Config.blockLength - 1 then
    some (j - (Config.blockLength - 1))
  else none

/-- The block's energy: the squared magnitudes of its eight main inputs (R113). -/
def Lane.blockEnergy (x : Lane) (j0 : Nat) : Nat :=
  ((List.range Config.blockLength).map
    fun i => (x.sampleAt (x.gridPos x.offsetFound ((j0 + i : Nat) : Int))).sq).sum

/-- The watch after a block: a low one raises the count and, the first, records its start; another resets it (R69,
R114). -/
def Lane.watchBlock (x : Lane) (j0 : Nat) : Lane :=
  if x.blockEnergy j0 < x.cls.floor then
    { x with lowCount := x.lowCount + 1, lowStart := if x.lowCount = 0 then j0 else x.lowStart }
  else { x with lowCount := 0 }

/-- The removal of an energy drop: the symbols at the low start or later leave the list and the sums (R70, R116). -/
def Lane.removeLate (x : Lane) : Lane :=
  let gone := x.symbols.filter fun y => decide (x.lowStart ≤ y.position)
  let err := (gone.map (·.err)).sum
  let ref := (gone.map (·.ref)).sum
  { x with
    symbols := x.symbols.filter fun y => decide (y.position < x.lowStart)
    member := x.member.minus err ref gone.length
    chain := x.chain.minus err ref gone.length }

end Sys2Proof.Machine
end

