-- ==== Sys2Proof/Machine/Search.lean ====
section
/-! DEFINITION. The Acquisition Unit (chapter 5): candidates, correlation, peak and detection test over a lane's
buffered samples. -/

namespace Sys2Proof.Machine

/-- L_corr: the symbols correlated (R83). -/
def corrLength (lp : Nat) : Nat := min lp 16

/-- The correlation C(o) (R84). -/
def Lane.correlation (x : Lane) (o : Int) : Cx :=
  (List.range x.lcorr).foldl
    (fun acc i => acc.add ((quadrantPoint (x.preamble.getD i 0)).conj.mul (x.sampleAt (o + 4 * (i : Int))))) Cx.zero

/-- The energy Ex(o) (R84). -/
def Lane.candidateEnergy (x : Lane) (o : Int) : Nat :=
  ((List.range x.lcorr).map fun i => (x.sampleAt (o + 4 * (i : Int))).sq).sum

/-- The pattern energy Ep (R84). -/
def Lane.patternEnergy (x : Lane) : Nat := x.lcorr * 2097152

/-- The candidate offsets c − W .. c + W in ascending order (R82), with c and W as the allocation fixed them (R81). -/
def Lane.candidates (x : Lane) : List Int :=
  (List.range (2 * x.halfWidth + 1)).map fun (i : Nat) => x.offset - (x.halfWidth : Int) + (i : Int)

/-- The peak of a list of candidates: the largest |C(o)|², the smallest offset among equals (R86). -/
def peakOf (power : Int → Nat) : List Int → Int → Int
  | [], best => best
  | o :: os, best => peakOf power os (if power best < power o then o else best)

def Lane.power (x : Lane) (o : Int) : Nat := (x.correlation o).sq

/-- The peak o* (R86). -/
def Lane.peak (x : Lane) : Int := peakOf x.power x.candidates (x.offset - x.halfWidth)

/-- The detection test on the peak (R87). -/
def Lane.detects (x : Lane) : Bool :=
  decide (0 < x.power x.peak ∧
    x.cls.rho * x.patternEnergy * x.candidateEnergy x.peak ≤ 16 * x.power x.peak)

/-- The measurement of a detected burst (R88). -/
def Lane.measured (x : Lane) : Measurement := { offset := x.peak, energy := x.candidateEnergy x.peak / x.lcorr }

end Sys2Proof.Machine
end

