-- ==== Sys2Proof/Machine/Profiles.lean ====
section
/-! DEFINITION. Station profiles as the lanes meet them: roles, preload, checkout, claims, the writeback judgement,
recentring, release (chapter 8 and sections 7.1, 7.2). -/

namespace Sys2Proof.Machine

/-! ### Preload and roles -/

/-- A candidate's preload is cold: a RANGING grant, or any grant for a profile that is not BOUND (R150). -/
def preloadCold (g : Grant) (p : Profile) : Bool := g.ranging || p.state != .bound

/-- The lane's vector and bias from a profile's stored values, or the default vector and bias 0 (R150). -/
def Lane.withPreload (x : Lane) (p : Profile) : Lane :=
  if preloadCold x.grant.grant p then { x with vec := defaultVector, bias := 0, cold := true }
  else { x with vec := p.current, bias := p.bias, cold := false }

/-- A cold guest: the default vector, bias 0, COLD and GUEST (R148, R159). -/
def Lane.asColdGuest (x : Lane) (p : Option (Fin 384)) : Lane :=
  { x with role := .coldGuest p, vec := defaultVector, bias := 0, cold := true, guest := true }

/-- A guest that copies the preload of R150 (R149, R153, R156). -/
def Lane.asGuest (x : Lane) (i : Fin 384) (p : Profile) : Lane :=
  { x.withPreload p with role := .guest i, guest := true }

/-- The lane becomes holder: it copies the preload, and the profile's holder field names it (R151). -/
def State.becomeHolder (s : State) (l : Fin 12) (p : Fin 384) : State :=
  (s.setLane l { (s.lane l).withPreload (s.prof p) with role := .holder p }).setProf p
    { s.prof p with holder := some l }

/-- A RETIRING profile with neither holder nor claim becomes FREE (R133). -/
def State.retireIfReleased (s : State) (p : Fin 384) : State :=
  if (s.prof p).state = .retiring ∧ (s.prof p).holder = none ∧ (s.prof p).claim = none then s.setProf p Profile.free
  else s

/-- A claim is resolved at the release of the holder: into a holding, or on a RETIRING profile into a cold guest (R155,
R157, R159, R163). DEDUCED (log entry 20): that cold guest goes on referring to the profile. -/
def State.resolveClaim (s : State) (p : Fin 384) : State :=
  match (s.prof p).claim with
  | none => s
  | some m =>
    let s := s.setProf p { s.prof p with claim := none }
    if (s.prof p).state = .retiring then s.setLane m ((s.lane m).asColdGuest (some p)) else s.becomeHolder m p

/-- The holder of a profile is released: the holder field and the overridden flag are cleared, a waiting claim is
resolved, a RETIRING profile is freed (R133, R157, R163, R167). -/
def State.releaseHolder (s : State) (p : Fin 384) : State :=
  ((s.setProf p { s.prof p with holder := none, overridden := false }).resolveClaim p).retireIfReleased p

/-- A claim is dropped without a holding (R156, R158). -/
def State.dropClaim (s : State) (p : Fin 384) : State :=
  (s.setProf p { s.prof p with claim := none }).retireIfReleased p

/-- A lane's role is released without a judgement (R74, R76, R157, R158). -/
def State.releaseRole (s : State) (r : Role) : State :=
  match r with
  | .holder p => s.releaseHolder p
  | .claim p => s.dropClaim p
  | .none | .guest _ | .coldGuest _ => s

/-! ### Recentring (R165, R166) -/

/-- The dominant tap: the largest squared magnitude, the lowest index among equals (R165). -/
def dominantFrom (v : CoefVector) : List (Fin 24) → Fin 24 → Fin 24
  | [], best => best
  | k :: ks, best => dominantFrom v ks (if v[best].toCx.sq < v[k].toCx.sq then k else best)

def dominantTap (v : CoefVector) : Fin 24 := dominantFrom v tapIds 0

/-- The new bias: clamp(b + s, −6, 6) (R165). -/
def newBias (bias shift : Int) : Int := clampInt (-6) 6 (bias + shift)

/-- D, s and a of a vector and the lane's bias (R165). -/
def recentreOf (v : CoefVector) (bias : Int) : Recentre :=
  let shift := ((dominantTap v).val : Int) - 6
  { dominant := (dominantTap v).val, shift := shift, applied := newBias bias shift - bias }

/-- Tap `k` of the new vector takes the old tap `k + a`, or (0, 0) where there is none (R166). -/
def shiftVector (v : CoefVector) (a : Int) : CoefVector :=
  Vector.ofFn fun k : Fin 24 =>
    if h : 0 ≤ (k.val : Int) + a ∧ (k.val : Int) + a < 24 then v[((k.val : Int) + a).toNat]'(by omega) else Coef.zero

/-! ### The writeback judgement (R160 to R163) -/

/-- A lane's record under construction, changed. -/
def Lane.mapRecord (x : Lane) (f : BurstRecord → BurstRecord) : Lane := { x with record := x.record.map f }

/-- The record after a passing judgement: PASS, the recentre section and its flags, a RANGING grant's vector (R162,
R166). -/
def BurstRecord.passed (r : BurstRecord) (c : Recentre) (v : CoefVector) : BurstRecord :=
  { r with gate := some .pass, recentre := some c, flags := r.flags.withRecentre c, ranging := r.ranging.map fun _ => v }

/-- The profile after a passing judgement (R161). -/
def Profile.passed (p : Profile) (v : CoefVector) (offset bias : Int) (mer : Nat) : Profile :=
  { p with previous := some p.current, current := v, offset := clampInt (-127) 127 offset, bias := bias, age := 0,
           failCount := 0, lastMer := some mer, state := .bound }

/-- The profile set back: the current vector takes the previous or the default one (R135, R162). -/
def Profile.revert (p : Profile) : Profile :=
  { p with current := p.previous.getD defaultVector, previous := none, failCount := 0 }

/-- The profile after a failing judgement (R162). -/
def Profile.failed (p : Profile) (mer : Nat) : Profile :=
  let q := { p with failCount := p.failCount + 1, lastMer := some mer }
  if q.revertLimit ≤ q.failCount then q.revert else q

/-- The failure reaches the revert limit (R162). -/
def Profile.failureReverts (p : Profile) : Bool := decide (p.revertLimit ≤ p.failCount + 1)

/-- Nothing to judge: the profile RETIRING or overridden, NO_PREAMBLE, or too few symbols (R160, rows 1 to 3). -/
def notJudged (x : Lane) (p : Profile) : Bool :=
  p.state == .retiring || p.overridden || (x.record.map (·.outcome)) == some .noPreamble ||
    decide (x.chain.n < Config.judgedSymbols)

/-- The judgement's outcome on the profile and on the lane's record (R160, R161, R162). `forwarded` says that it is made
at a forward or at a claim's resolution. -/
def State.judgeEffect (s : State) (l : Fin 12) (p : Fin 384) (forwarded : Bool) : State :=
  let x := { s.lane l with forwarded := (s.lane l).forwarded || forwarded }
  let q := s.prof p
  let mer := x.chain.mer
  if notJudged x q then
    s.setLane l ({ x with overridden := x.overridden || (q.state != ProfileState.retiring && q.overridden) }.mapRecord
      fun r => { r with gate := some .nothing })
  else if x.cls.gate ≤ mer then
    let c := recentreOf x.vec x.bias
    let v := shiftVector x.vec c.applied
    (s.setLane l (x.mapRecord fun r => r.passed c v)).setProf p
      (q.passed v x.offsetFound (newBias x.bias c.shift) mer)
  else
    let s := (s.setLane l (x.mapRecord fun r => { r with gate := some .fail })).setProf p (q.failed mer)
    if q.failureReverts then s.notify (.profileReverted p q.key) else s

/-- The judgement of a holder: its effect, then its release (R160, R163). -/
def State.judge (s : State) (l : Fin 12) (p : Fin 384) (forwarded : Bool) : State :=
  let s := s.judgeEffect l p forwarded
  (s.setLane l { s.lane l with role := .none }).releaseHolder p

/-! ### Checkout at arming (R147 to R153) -/

/-- A candidate for the holder role of a profile (R150): holder at once, a forward first, the pending claim, or a
guest. -/
def State.checkoutCandidate (s : State) (l : Fin 12) (p : Fin 384) : State :=
  match (s.prof p).holder with
  | none => s.becomeHolder l p
  | some h =>
    if (s.lane h).state = .closing then (s.judge h p true).becomeHolder l p
    else if (s.prof p).claim = none then
      (s.setLane l { s.lane l with role := .claim p, vec := defaultVector, bias := 0 }).setProf p
        { s.prof p with claim := some l }
    else s.setLane l ((s.lane l).asGuest p (s.prof p))

/-- The checkout that an allocation begins: an open or unbound grant, NO_WRITEBACK, or a candidate (R148, R149,
R150). -/
def State.checkout (s : State) (l : Fin 12) : State :=
  let x := s.lane l
  let g := x.grant.grant
  if g.station = 16383 then s.setLane l (x.asColdGuest none)
  else
    match s.lookup ⟨g.station, x.channel⟩ with
    | none => s.setLane l { x.asColdGuest none with unbound := true }
    | some p =>
      if g.noWriteback then
        if preloadCold g (s.prof p) then s.setLane l (x.asColdGuest (some p))
        else s.setLane l (x.asGuest p (s.prof p))
      else s.checkoutCandidate l p

/-- A claim still standing at the window opening is dropped: a guest, or on a RETIRING profile a cold guest (R156,
R159). DEDUCED (log entry 20): that cold guest goes on referring to the profile. -/
def State.claimAtWindow (s : State) (l : Fin 12) : State :=
  match (s.lane l).role with
  | .claim p =>
    let x := s.lane l
    let y := if (s.prof p).state = .retiring then x.asColdGuest (some p) else x.asGuest p (s.prof p)
    (s.setLane l y).dropClaim p
  | .none | .holder _ | .guest _ | .coldGuest _ => s

end Sys2Proof.Machine
end

