-- ==== Sys2Proof/Machine/Lanes.lean ====
section
/-! DEFINITION. Reception lanes and the grants that come to them: records, allocation, arming, linked grants, entry to
CLOSING, aborts, samples, and the lane's events (chapters 3, 4 and 9). -/

namespace Sys2Proof.Machine

/-! ### Records (R172 to R176) -/

/-- The record of a grant that took no lane (R172): HEADER form, no lane. -/
def lanelessRecord (ch : Fin 6) (g : Grant) (m : Modulation) (outcome : BurstOutcome) (flags : RecordFlags) :
    BurstRecord :=
  { channel := ch, cls := g.cls, modulation := m, outcome := outcome, cause := none, station := g.station,
    start := g.start, counter := 0, flags := flags, gate := none, lane := none, laneSection := none,
    measurement := none, sums := none, recentre := none, symbols := none, ranging := none }

/-- The profile index the lane refers to (R197). -/
def Role.profile : Role → Option (Fin 384)
  | .none => Option.none
  | .holder p | .claim p | .guest p => some p
  | .coldGuest p => p

/-- The vector a lane held when it left ARMED, or holds while it is ARMED (R197). -/
def Lane.preloaded (x : Lane) : CoefVector := if x.state = .armed then x.vec else x.preload

/-- The lane section as the content is fixed (R197). -/
def Lane.section_ (x : Lane) : LaneSection :=
  { profile := x.role.profile, bias := x.bias, chain := x.chain, chainMer := x.chain.mer, windowOpen := x.windowOpen,
    searchEnd := x.searchEnd,
    taps := tapIds.map fun k => (x.preloaded[k].toCx.sq, x.vec[k].toCx.sq) }

/-- The member list as the record carries it (R175). -/
def Lane.listed (x : Lane) : List (Nat × Nat) := x.symbols.map fun y => (y.i, y.q)

/-- The record a lane fixes, with the groups its burst reached (table of R172). -/
def Lane.fixRecord (x : Lane) (l : Fin 12) (outcome : BurstOutcome) (cause : Option AbortCause) (linked : Bool)
    (gate : Option GateResult) (sums : Bool) (symbols : Option (List (Nat × Nat))) : BurstRecord :=
  { channel := x.channel, cls := x.grant.grant.cls, modulation := x.cls.modulation, outcome := outcome, cause := cause,
    station := x.grant.grant.station, start := x.grant.grant.start, counter := 0, flags := x.fixedFlags linked,
    gate := gate, lane := some l, laneSection := some x.section_, measurement := x.measurement,
    sums := if sums then some x.member else none, recentre := none, symbols := symbols,
    ranging := if x.grant.grant.ranging then some x.vec else none }

/-- The record fixed at the entry to CLOSING (R71): gate result NONE until a judgement writes its own (R76, R173). -/
def Lane.closingRecord (x : Lane) (l : Fin 12) (outcome : BurstOutcome) : BurstRecord :=
  x.fixRecord l outcome none false (some .nothing) (outcome != .noPreamble)
    (some (if outcome = .noPreamble then [] else x.listed))

/-- The record of an abort before CLOSING (R75). -/
def Lane.abortRecord (x : Lane) (l : Fin 12) (cause : AbortCause) (d : Disposition) : BurstRecord :=
  x.fixRecord l .aborted (some cause) false none (x.state == .tracking)
    (if d = .withList then some (if x.state = .tracking then x.listed else []) else none)

/-- The record of a continuation: COMPLETE with LINKED, no gate result (R67). -/
def Lane.linkedRecord (x : Lane) (l : Fin 12) : BurstRecord :=
  x.fixRecord l .complete none true none true (some x.listed)

/-- A lane's record handed over, with the flags that stand at the emission (R12, R174). -/
def State.emitLane (s : State) (l : Fin 12) (r : BurstRecord) : State :=
  s.emitRecord { r with flags := (s.lane l).emittedFlags r.flags }

/-! ### Allocation and arming (R46, R56, R57) -/

/-- The expected offset that an arming reads: the profile's for a grant that is neither open nor RANGING and whose key
is present, 0 otherwise (R46). -/
def State.expectedOffset (s : State) (ch : Fin 6) (g : Grant) : Int :=
  if g.ranging then 0 else
    match s.grantProfile ch g with
    | none => 0
    | some p => (s.prof p).offset

/-- The window-open tick: start + (c − W) × tps / 4 (R46). -/
def windowOpenTick (c : Channel) (g : QueuedGrant) (offset : Int) (w : Nat) : Tick :=
  addTicks g.startTick (c.quarters (offset - w))

/-- The search end tick: start + (c + W) × tps / 4 + L_corr × tps (R57). -/
def searchEndTick (c : Channel) (g : QueuedGrant) (offset : Int) (w lp : Nat) : Tick :=
  addTicks g.startTick (c.quarters (offset + w) + (c.symbolTicks (corrLength lp) : Int))

/-- A lane as its allocation leaves it, before its checkout (R57, R81). -/
def State.allocated (s : State) (ch : Fin 6) (g : QueuedGrant) (offset : Int) : Lane :=
  let c := s.chan ch
  let e := s.classOf ch g.grant
  { Lane.idle with
    state := .armed, grant := g, channel := ch, cls := e, offset := offset,
    halfWidth := e.w, windowOpen := windowOpenTick c g offset e.w, searchEnd := searchEndTick c g offset e.w e.lp,
    firstPos := offset - e.w, preamble := s.patterns[e.preamble].take e.lp, lcorr := corrLength e.lp,
    holdoverMark := s.timebase.sync == .holdover,
    searchReached := s.reached (searchEndTick c g offset e.w e.lp), endReached := s.reached g.endTick }

/-- The grant behind a CHAIN grant that took no lane loses its link mark (R52). -/
def breakLink : List QueuedGrant → List QueuedGrant
  | [] => []
  | g :: gs => { g with link := false } :: gs

/-- The grant behind the one that leaves holds a link that a leaving without a lane breaks (R52). -/
def linkBreaks (g : QueuedGrant) (behind : List QueuedGrant) : Bool :=
  g.grant.chain && (behind.head?.map (·.link)).getD false

/-- A grant that has left its queue yields its record without a lane (R26, R47, R56, R52). -/
def State.leaveWithoutLane (s : State) (ch : Fin 6) (g : QueuedGrant) (outcome : BurstOutcome) : State :=
  let s := s.emitRecord (lanelessRecord ch g.grant (s.classOf ch g.grant).modulation outcome s.lanelessFlags)
  if linkBreaks g (s.queue ch) then s.setQueue ch (breakLink (s.queue ch)) else s

/-- A grant that has left its queue arms: NO_INPUT, MISSED, NO_LANE or one of the lanes of `pool` (R26, R46, R47, R56,
R57). The flag says that the link of the grant behind it was broken. -/
def State.armGrant (s : State) (pool : List (Fin 12)) (ch : Fin 6) (g : QueuedGrant) : State × Bool :=
  let offset := s.expectedOffset ch g.grant
  if (s.chan ch).lock = .lost then (s.leaveWithoutLane ch g .noInput, linkBreaks g (s.queue ch))
  else if s.reached (windowOpenTick (s.chan ch) g offset (s.classOf ch g.grant).w) then
    (s.leaveWithoutLane ch g .missed, linkBreaks g (s.queue ch))
  else
    match s.freeLane pool with
    | none => (s.leaveWithoutLane ch g .noLane, linkBreaks g (s.queue ch))
    | some l => ((s.setLane l (s.allocated ch g offset)).checkout l, false)

/-- The head leaves its queue and arms (R46). -/
def State.armHead (s : State) (pool : List (Fin 12)) (ch : Fin 6) : State × Bool :=
  match s.queue ch with
  | [] => (s, false)
  | g :: gs => (s.setQueue ch gs).armGrant pool ch g

/-- The lane serves the predecessor of a queued grant and still receives (R49): it serves the channel's CHAIN grant
that ends where the queued grant begins. -/
def Lane.precedes (x : Lane) (ch : Fin 6) (g : QueuedGrant) : Bool :=
  x.state.receiving && x.channel == ch && x.grant.grant.chain && x.grant.grant.station == g.grant.station &&
    x.grant.endTick == g.startTick

/-- The head is linked to the lane's grant (R49, R50). -/
def State.headFollows (s : State) (l : Fin 12) : Bool :=
  match s.queue (s.lane l).channel with
  | [] => false
  | g :: _ => g.link && (s.lane l).precedes (s.lane l).channel g

/-- The head is linked: it holds the link mark and a lane serves its predecessor (R49). -/
def State.linked (s : State) (ch : Fin 6) (g : QueuedGrant) : Bool :=
  g.link && laneIds.any fun l => (s.lane l).precedes ch g

/-- The head has its arming event: it is not linked and its arm tick has been reached (R2, R45). -/
def State.headDue (s : State) (ch : Fin 6) : Bool :=
  match s.queue ch with
  | [] => false
  | g :: _ => !s.linked ch g && g.armReached

/-- Heads arm one after another while the next one is due (R45, R48). -/
def armRun (pool : List (Fin 12)) (ch : Fin 6) : Nat → State → State
  | 0, s => s
  | n + 1, s => if s.headDue ch then armRun pool ch n (s.armHead pool ch).1 else s

def State.runQueue (s : State) (pool : List (Fin 12)) (ch : Fin 6) : State := armRun pool ch (s.queue ch).length s

/-- Heads whose link the arming before them broke arm at once when their arm tick is reached (R52). -/
def brokenRun (ch : Fin 6) : Nat → State × Bool → State
  | 0, r => r.1
  | n + 1, r => if r.2 && r.1.headDue ch then brokenRun ch n (r.1.armHead laneIds ch) else r.1

/-- A linked head falls back to arming at once (R51), and the grants behind it that are then due arm at the same event
(R45, R52). `defer` leaves to R8 the grants that R8 arms after all the aborts of a forward step. -/
def State.fallback (s : State) (ch : Fin 6) (defer : Bool) : State :=
  let t := brokenRun ch (s.queue ch).length (s.armHead laneIds ch)
  if defer then t else t.runQueue laneIds ch

/-! ### Entry to CLOSING (R71) -/

/-- The lane enters CLOSING: its record is fixed, its buffering stops, its close count starts; a holder with a claim
waiting is judged at once (R71, R155). -/
def State.enterClosing (s : State) (l : Fin 12) (outcome : BurstOutcome) : State :=
  let x := s.lane l
  let s := s.setLane l { x with
    state := .closing, closeCount := 0, record := some (x.closingRecord l outcome), lowCount := 0, lowStart := 0 }
  match x.role with
  | .holder p => if (s.prof p).claim.isSome then s.judge l p true else s
  | .none | .claim _ | .guest _ | .coldGuest _ => s

/-- The burst ends early, as NO_PREAMBLE or SHORTENED: the lane enters CLOSING and then a linked head falls back (R51,
R63, R70). -/
def State.endEarly (s : State) (l : Fin 12) (outcome : BurstOutcome) : State :=
  let ch := (s.lane l).channel
  let follows := s.headFollows l
  let s := s.enterClosing l outcome
  if follows then s.fallback ch false else s

/-! ### The end event (R67, R68) -/

/-- The lane's next grant of the chain (R65, R67). -/
def Lane.continueInto (x : Lane) (g : QueuedGrant) (e : ClassEntry) (spm : Nat) (holdover reached : Bool) : Lane :=
  { x with
    grant := g, cls := e, base := x.base + x.grantSymbols spm, continued := true, symbols := [], member := Sums.zero,
    lowCount := 0, lowStart := 0, holdoverMark := holdover, endReached := reached }

/-- A continuation: the ended grant's LINKED record, then the head becomes the lane's grant (R50, R67). -/
def State.continueLane (s : State) (l : Fin 12) : State :=
  let x := s.lane l
  let ch := x.channel
  match s.queue ch with
  | [] => s
  | g :: gs =>
    let s := (s.emitLane l (x.linkedRecord l)).setQueue ch gs
    s.setLane l (x.continueInto g (s.classOf ch g.grant) (s.chan ch).spm.spm (s.timebase.sync == .holdover)
      (s.reached g.endTick))

/-- The end event, and at once those of linked grants whose end tick is already reached (R67, R68). -/
def endGrants (l : Fin 12) : Nat → State → State
  | 0, s => s
  | n + 1, s =>
    if s.headFollows l then
      let s := s.continueLane l
      if (s.lane l).endReached then endGrants l n s else s
    else s.enterClosing l .complete

/-- The end event of a lane in TRACKING. A continuation makes a new head, which arms at the same event when it is due
(R45, R67); a lane that closes without one leaves the queue as it stands (R50, R68). -/
def State.endOfGrant (s : State) (l : Fin 12) : State :=
  let ch := (s.lane l).channel
  let t := endGrants l ((s.queue ch).length + 1) s
  if s.headFollows l then t.runQueue laneIds ch else t

/-! ### Samples (R60, R64, R66, R69) -/

/-- Training ends with the last preamble symbol: TRACKING (R64). -/
def Lane.afterTraining (x : Lane) : Lane :=
  { x with nextPos := x.nextPos + 1, state := if x.nextPos + 1 ≥ x.cls.lp then .tracking else .training }

/-- The lane processes its next position (R60, R112). -/
def Lane.processNext (x : Lane) (spm : Nat) : Lane :=
  if x.state = .training then (x.trainSymbol x.nextPos).afterTraining
  else if x.inDataRange spm x.nextPos then { x.decideSymbol x.nextPos with nextPos := x.nextPos + 1 }
  else { x with nextPos := x.nextPos + 1 }

/-- The symbol that the arrival of position `pos` completes; at the entry to TRACKING an end tick already reached is
taken at once (R60, R62, R64, R66). -/
def State.symbolArrival (s : State) (l : Fin 12) (pos : Int) : State :=
  let x := s.lane l
  if (x.state = .training ∨ x.state = .tracking) ∧ x.gridPos x.offsetFound (x.nextPos + 6) ≤ pos then
    let y := x.processNext (s.chan x.channel).spm.spm
    let s := s.setLane l y
    if x.state = .training ∧ y.state = .tracking ∧ y.endReached then s.endOfGrant l else s
  else s

/-- The energy block that the arrival of position `pos` completes (R69, R70). -/
def State.blockArrival (s : State) (l : Fin 12) (pos : Int) : State :=
  let x := s.lane l
  if x.state = .tracking ∧ 0 < x.cls.floor then
    match (x.symbolAt pos).bind (x.blockEndingAt (s.chan x.channel).spm.spm) with
    | none => s
    | some j0 =>
      let y := x.watchBlock j0
      let s := s.setLane l (if y.lowCount ≥ 2 then y.removeLate else y)
      if y.lowCount ≥ 2 then s.endEarly l .shortened else s
  else s

/-- What the arrival of position `pos` does to a lane in TRAINING or TRACKING: first the symbol, then the block (R60). -/
def State.positionArrival (s : State) (l : Fin 12) (pos : Int) : State := (s.symbolArrival l pos).blockArrival l pos

/-- The catch-up at TRAINING entry: every sample from the window opening on, in arrival order (R64). -/
def catchUp (l : Fin 12) : Nat → Int → State → State
  | 0, _, s => s
  | n + 1, pos, s => catchUp l n (pos + 1) (s.positionArrival l pos)

/-- A sample reaches one lane of its channel: buffered, processed, or counted (R59, R60, R72). -/
def State.laneSample (s : State) (l : Fin 12) (v : Sample) : State :=
  let x := s.lane l
  match x.state with
  | .free | .armed => s
  | .searching => s.setLane l { x with buffer := x.buffer ++ [v] }
  | .training | .tracking =>
    (s.setLane l { x with buffer := x.buffer ++ [v] }).positionArrival l (x.firstPos + (x.buffer.length : Int))
  | .closing => s.setLane l { x with closeCount := min Config.closeSamples (x.closeCount + 1) }

/-! ### Aborts (R74 to R77) -/

/-- An abort before CLOSING: record by the disposition, the lane FREE, its role released, a linked head's fallback for
TIMEBASE_STEP and INPUT_LOST, the STOPPING test (R74). -/
def State.abortReceiving (s : State) (l : Fin 12) (cause : AbortCause) (defer : Bool) : State :=
  let x := s.lane l
  let ch := x.channel
  let d := (s.chan ch).disposition
  let follows := s.headFollows l && (cause == .timebaseStep || cause == .inputLost)
  let s := if d = .silent then s else s.emitLane l (x.abortRecord l cause d)
  let s := (s.setLane l Lane.idle).releaseRole x.role
  (if follows then s.fallback ch defer else s).settle ch

/-- An abort in CLOSING: the record fixed at the entry, whatever the disposition; a judgement not yet made is skipped
(R76). -/
def State.abortClosing (s : State) (l : Fin 12) : State :=
  let x := s.lane l
  let s :=
    match x.record with
    | none => s
    | some r => s.emitLane l r
  ((s.setLane l Lane.idle).releaseRole x.role).settle x.channel

/-- The abort of one lane, for every cause but RESET_NODE (R74, R76). -/
def State.abortLane (cause : AbortCause) (defer : Bool) (s : State) (l : Fin 12) : State :=
  match (s.lane l).state with
  | .free => s
  | .closing => s.abortClosing l
  | .armed | .searching | .training | .tracking => s.abortReceiving l cause defer

/-- The aborts of one event, in the order given: ascending lane number (R77). -/
def State.abortLanes (s : State) (cause : AbortCause) (defer : Bool) (ls : List (Fin 12)) : State :=
  ls.foldl (State.abortLane cause defer) s

/-- The flush of a queue (R53). -/
def State.flush (s : State) (ch : Fin 6) : State := s.setQueue ch []

/-- A channel is halted: its queue flushed, its lanes aborted, READY (R10, R23). -/
def State.haltChannel (s : State) (ch : Fin 6) (cause : AbortCause) : State :=
  let s := s.flush ch
  (s.abortLanes cause false (s.lanesOf ch)).setChanState ch .ready

/-! ### The lanes' commands -/

/-- ARMING: the head's arming event, when it has one; the grants behind it that are then due arm too (R45, R46, R48). -/
def execArming (ch : Fin 6) (s : State) : Host.Outcome State Fault Refusal :=
  .next (s.unlessReset fun s => if s.headDue ch then (s.runQueue laneIds ch).settle ch else s)

/-- The window opens: SEARCHING, or an abort when the lock is LOST (R25, R61, R156). -/
def State.openWindow (s : State) (l : Fin 12) : State :=
  if (s.chan (s.lane l).channel).lock = .lost then s.abortLane .inputLost false l
  else
    let s := s.claimAtWindow l
    s.setLane l { s.lane l with state := .searching, buffer := [], preload := (s.lane l).vec }

/-- WINDOW_OPENING (R61): when the lane is ARMED and its window-open tick has been reached (R2). -/
def execWindowOpening (l : Fin 12) (s : State) : Host.Outcome State Fault Refusal :=
  .next (s.unlessReset fun s =>
    if (s.lane l).state = .armed ∧ (s.lane l).windowReached then s.openWindow l else s)

/-- The search ends: TRAINING with its catch-up, or NO_PREAMBLE (R63, R64, R87 to R89). -/
def State.endSearch (s : State) (l : Fin 12) : State :=
  let x := s.lane l
  if x.detects then
    catchUp l x.buffer.length x.firstPos
      (s.setLane l { x with state := .training, measurement := some x.measured, nextPos := 0 })
  else s.endEarly l .noPreamble

/-- SEARCH_END (R63): when the lane is SEARCHING and its search end tick has been reached (R2). -/
def execSearchEnd (l : Fin 12) (s : State) : Host.Outcome State Fault Refusal :=
  .next (s.unlessReset fun s =>
    if (s.lane l).state = .searching ∧ (s.lane l).searchReached then s.endSearch l else s)

/-- SAMPLE_ARRIVAL (R60): the sample reaches every lane serving the channel, in ascending lane number. -/
def execSampleArrival (ch : Fin 6) (re im : BitVec 12) (s : State) : Host.Outcome State Fault Refusal :=
  .next (s.unlessReset fun s => (s.lanesOf ch).foldl (fun s l => s.laneSample l ⟨re, im⟩) s)

/-- END_EVENT (R67): when the lane is TRACKING and its grant's end tick has been reached. -/
def execEndEvent (l : Fin 12) (s : State) : Host.Outcome State Fault Refusal :=
  .next (s.unlessReset fun s =>
    if (s.lane l).state = .tracking ∧ (s.lane l).endReached then s.endOfGrant l else s)

/-- The close completes: the judgement still due, the record, FREE, the STOPPING test (R73). -/
def State.completeClose (s : State) (l : Fin 12) : State :=
  let s :=
    match (s.lane l).role with
    | .holder p => s.judge l p false
    | .none | .claim _ | .guest _ | .coldGuest _ => s
  let x := s.lane l
  let s :=
    match x.record with
    | none => s
    | some r => s.emitLane l r
  (s.setLane l Lane.idle).settle x.channel

/-- CLOSE_COMPLETION (R73): when the lane's close count has reached 128. -/
def execCloseCompletion (l : Fin 12) (s : State) : Host.Outcome State Fault Refusal :=
  .next (s.unlessReset fun s =>
    if (s.lane l).state = .closing ∧ (s.lane l).closeCount = Config.closeSamples then s.completeClose l else s)

/-- INPUT_LOCK_LOST (R24): the lock follows the line; lanes in SEARCHING, TRAINING or TRACKING are aborted. -/
def execInputLockLost (ch : Fin 6) (s : State) : Host.Outcome State Fault Refusal :=
  let s := s.setChan ch { s.chan ch with lock := .lost }
  .next (s.unlessReset fun s =>
    s.abortLanes .inputLost false ((s.lanesOf ch).filter fun l =>
      (s.lane l).state == .searching || (s.lane l).state == .training || (s.lane l).state == .tracking))

/-- INPUT_LOCK_LOCKED (R25): the lock follows the line; nothing is restored. -/
def execInputLockLocked (ch : Fin 6) (s : State) : Host.Outcome State Fault Refusal :=
  .next (s.setChan ch { s.chan ch with lock := .locked })

end Sys2Proof.Machine
end

