-- ==== Sys2Proof/Machine/Timebase.lean ====
section
/-! DEFINITION. The Timebase Unit (chapter 1): ticks, time marks, the losing of the marks. -/

namespace Sys2Proof.Machine

/-- A change of the sync state. -/
def State.setSync (s : State) (x : SyncState) : State := s.setTimebase { s.timebase with sync := x }

def State.setLastMark (s : State) (t : Tick) : State := s.setTimebase { s.timebase with lastMark := t }

/-- TICK: the regular count; while RESET_N is low the counter holds 0 (R1). -/
def execTick (s : State) : Host.Outcome State Fault Refusal :=
  .next (s.unlessReset fun s => s.setCounter (s.counter + 1))

/-! ### Time marks (R5 to R8) -/

/-- d: (T − counter) mod 2^32 read as a signed number (R5). -/
def State.markDifference (s : State) (t : Tick) : Int := (t - s.counter).toInt

/-- The SYNC_REGAINED notice, with the counter after the mark's load or move (section 9.5). -/
def State.regained (s : State) : State := s.notify (.syncRegained s.counter)

/-- A return to SYNCED from HOLDOVER, with its notice; in SYNCED nothing (R6, R7). -/
def State.resync (s : State) : State :=
  match s.timebase.sync with
  | .holdover => (s.setSync .synced).regained
  | .synced | .unsynced => s

/-- A mark in UNSYNCED loads the counter (R5). -/
def State.firstMark (s : State) (t : Tick) : State :=
  (((s.setCounter t).setSync .synced).setLastMark t).regained

/-- A mark within the step tolerance moves the counter one tick toward T (R6). -/
def State.moveMark (s : State) (d : Int) : State :=
  let s := s.setCounter (if 0 < d then s.counter + 1 else if d < 0 then s.counter - 1 else s.counter)
  (s.setLastMark s.counter).resync

/-- d as the TIMEBASE_STEP notice reports it (R7). -/
def saturateStep (d : Int) : Int := clampInt (-(2 ^ 31 - 1)) (2 ^ 31 - 1) d

/-- The armings of a forward step, queue by queue in ascending channel number, each taking the lowest-numbered lane that
is FREE and was FREE when the step was taken, `pool` (R8). DESIGN CHOICE (log entry 34): R8 names those lanes alone, while
R48, R56 and R58 give an arming the lowest lane FREE at its event, which could be one that the step has just freed. -/
def State.armAll (s : State) (pool : List (Fin 12)) : State :=
  channelIds.foldl (fun s ch => if s.headDue ch then (s.runQueue pool ch).settle ch else s) s

/-- A mark beyond the step tolerance: load, aborts, after a forward step the armings, the TIMEBASE_STEP notice, the
last-mark tick, and in HOLDOVER the return to SYNCED (R7, R8). -/
def State.stepMark (s : State) (t : Tick) (d : Int) : State :=
  let pool := s.freeLanes
  let s := s.stepCounter t
  let busy := laneIds.filter fun l => (s.lane l).state != .free
  let s := s.abortLanes .timebaseStep (decide (0 < d)) busy
  let s := if 0 < d then s.armAll pool else s
  ((s.notify (.timebaseStep (saturateStep d))).setLastMark t).resync

/-- A TIME MARK taken by the Timebase Unit (R5, R6, R7). -/
def State.takeMark (s : State) (t : Tick) : State :=
  match s.timebase.sync with
  | .unsynced => s.firstMark t
  | .synced | .holdover =>
    let d := s.markDifference t
    if d.natAbs ≤ s.timebase.stepTolerance then s.moveMark d else s.stepMark t d

/-- TIME MARK is passed on without a test for room: it has no response (R5, R179, R185). -/
def State.takeTimeMark (s : State) (m : Message) : State :=
  s.passOn m (readTimeMark m.body) .malformed 0 fun s t => s.takeMark t

/-- TIME_MARK (R5). -/
def execTimeMark (tag : Byte) (body : List Byte) (s : State) : Host.Outcome State Fault Refusal :=
  takeRequest ⟨kindTimeMark, tag, body⟩ State.takeTimeMark s

/-! ### Losing the marks (R9, R10) -/

/-- The mark timeout's deadline (R9). -/
def Timebase.markDeadline (t : Timebase) : Tick := t.lastMark + BitVec.ofNat 32 (t.markTimeout * Config.ticksPerMs)

/-- The holdover limit's deadline (R10). -/
def Timebase.holdoverDeadline (t : Timebase) : Tick :=
  t.holdoverStart + BitVec.ofNat 32 (t.holdoverLimit * Config.ticksPerSecond)

/-- A lane that is not FREE sets its grant's holdover mark (R12). -/
def Lane.markHoldover (x : Lane) : Lane := if x.state = .free then x else { x with holdoverMark := true }

/-- The expiry of the mark timeout: HOLDOVER (R9, R12). -/
def State.enterHoldover (s : State) : State :=
  let s := s.setTimebase { s.timebase with sync := .holdover, holdoverStart := s.counter }
  ({ s with lanes := s.lanes.map Lane.markHoldover }).notify (.syncHoldover s.timebase.holdoverStart)

/-- The channel is RUNNING or STOPPING. -/
def ChannelState.active : ChannelState → Bool
  | .running | .stopping => true
  | .off | .ready => false

/-- The expiry of the holdover limit: UNSYNCED, the SYNC_LOST notice, then every RUNNING or STOPPING channel halted
(R10). DESIGN CHOICE (log entry 36): the lanes are aborted channel by channel, in ascending lane number within each, as
R10 has it; R77 orders the aborts of one event by lane number alone. -/
def State.loseSync (s : State) : State :=
  let s := (s.setSync .unsynced).notify (.syncLost s.timebase.holdoverStart)
  channelIds.foldl (fun s ch => if (s.chan ch).state.active then s.haltChannel ch .syncLost else s) s

/-- The deadline of R9 in SYNCED, or of R10 in HOLDOVER, when it is at or behind the counter. -/
def State.markTimedOut (s : State) : Bool := s.timebase.sync == .synced && s.reached s.timebase.markDeadline

def State.holdoverOver (s : State) : Bool := s.timebase.sync == .holdover && s.reached s.timebase.holdoverDeadline

/-- MARK_TIMEOUT_EXPIRY (R9). -/
def execMarkTimeoutExpiry (s : State) : Host.Outcome State Fault Refusal :=
  .next (s.unlessReset fun s => if s.markTimedOut then s.enterHoldover else s)

/-- HOLDOVER_LIMIT_EXPIRY (R10). -/
def execHoldoverLimitExpiry (s : State) : Host.Outcome State Fault Refusal :=
  .next (s.unlessReset fun s => if s.holdoverOver then s.loseSync else s)

end Sys2Proof.Machine
end

