-- ==== Sys2Proof/Machine/Channels.lean ====
section
/-! DEFINITION. Channel requests and the intake of a SCHEDULE (chapters 2 and 3). -/

namespace Sys2Proof.Machine

/-- A request that names a channel: refused with BAD_CHANNEL outside 0 .. 5 (R17, R37). -/
def State.onChannel (s : State) (m : Message) (ch : Nat) (refusedFields : List Byte) (act : State → Fin 6 → State) :
    State :=
  if h : ch < 6 then act s ⟨ch, h⟩ else s.respond m .badChannel refusedFields

/-- CHANNEL SET on its channel (R18). -/
def State.channelSet (s : State) (m : Message) (c : ChannelSettings) (ch : Fin 6) : State :=
  if (s.chan ch).state.active then s.respond m .channelState []
  else
    (s.setChan ch { s.chan ch with state := .ready, rate := c.rate, spm := c.spm, epoch := c.epoch,
                                   disposition := c.disposition }).respond m .ok []

/-- CHANNEL SET is passed on (R18). -/
def State.takeChannelSet (s : State) (m : Message) : State :=
  s.passOn m (readChannelSet m.body) .malformed roomPlain fun s c =>
    s.onChannel m c.channel [] fun s ch => s.channelSet m c ch

/-- CHANNEL_SET (R18). -/
def execChannelSet (tag : Byte) (body : List Byte) (s : State) : Host.Outcome State Fault Refusal :=
  takeRequest ⟨kindChannelSet, tag, body⟩ State.takeChannelSet s

/-- CHANNEL START on its channel (R4, R20). -/
def State.channelStart (s : State) (m : Message) (ch : Fin 6) : State :=
  match (s.chan ch).state with
  | .off | .stopping => s.respond m .channelState []
  | .running => s.respond m .ok []
  | .ready =>
    if s.timebase.sync = .unsynced then s.respond m .notSynced [] else (s.setChanState ch .running).respond m .ok []

/-- CHANNEL START is passed on (R20). -/
def State.takeChannelStart (s : State) (m : Message) : State :=
  s.passOn m (readChannel m.body) .malformed roomPlain fun s ch => s.onChannel m ch [] fun s ch => s.channelStart m ch

/-- CHANNEL_START (R20). -/
def execChannelStart (tag : Byte) (body : List Byte) (s : State) : Host.Outcome State Fault Refusal :=
  takeRequest ⟨kindChannelStart, tag, body⟩ State.takeChannelStart s

/-- CHANNEL STOP on its channel: STOPPING, or READY when already empty (R21, R22). -/
def State.channelStop (s : State) (m : Message) (ch : Fin 6) : State :=
  match (s.chan ch).state with
  | .off => s.respond m .channelState []
  | .ready | .stopping => s.respond m .ok []
  | .running => ((s.setChanState ch .stopping).settle ch).respond m .ok []

/-- CHANNEL STOP is passed on (R21). -/
def State.takeChannelStop (s : State) (m : Message) : State :=
  s.passOn m (readChannel m.body) .malformed roomPlain fun s ch => s.onChannel m ch [] fun s ch => s.channelStop m ch

/-- CHANNEL_STOP (R21). -/
def execChannelStop (tag : Byte) (body : List Byte) (s : State) : Host.Outcome State Fault Refusal :=
  takeRequest ⟨kindChannelStop, tag, body⟩ State.takeChannelStop s

/-- CHANNEL HALT on its channel: the response, with the number flushed, after the records of the aborts (R23). -/
def State.channelHalt (s : State) (m : Message) (ch : Fin 6) : State :=
  match (s.chan ch).state with
  | .off => s.respond m .channelState (beBytes 1 0)
  | .ready => s.respond m .ok (beBytes 1 0)
  | .running | .stopping => (s.haltChannel ch .channelHalt).respond m .ok (beBytes 1 (s.queue ch).length)

/-- CHANNEL HALT is passed on (R23). -/
def State.takeChannelHalt (s : State) (m : Message) : State :=
  s.passOn m (readChannel m.body) .malformed roomHalt fun s ch =>
    s.onChannel m ch (beBytes 1 0) fun s ch => s.channelHalt m ch

/-- CHANNEL_HALT (R23). -/
def execChannelHalt (tag : Byte) (body : List Byte) (s : State) : Host.Outcome State Fault Refusal :=
  takeRequest ⟨kindChannelHalt, tag, body⟩ State.takeChannelHalt s

/-! ### Intake (R35 to R43) -/

/-- The later of two lane grants by start tick (R39). -/
def laterLane (a : Option Lane) (b : Lane) : Option Lane :=
  match a with
  | none => some b
  | some x => if ahead b.grant.startTick x.grant.startTick then some b else some x

/-- The channel's newest lane grant's lane (R39). -/
def State.newestLane (s : State) (ch : Fin 6) : Option Lane :=
  ((s.lanesOf ch).map s.lane).foldl laterLane none

/-- The predecessor of a grant at intake, and whether it can still hand on (R39, R41): the queue's tail, else the newest
lane grant. -/
def State.predecessor (s : State) (ch : Fin 6) : Option (QueuedGrant × Bool) :=
  match (s.queue ch).getLast? with
  | some g => some (g, true)
  | none => (s.newestLane ch).map fun x => (x.grant, x.state.receiving)

/-- An open grant that carries CHAIN has the flag dropped (R41). -/
def admitGrant (g : Grant) : Grant := if g.station = 16383 then { g with chain := false } else g

/-- A grant with the values intake derives (R35). -/
def State.derive (s : State) (ch : Fin 6) (g : Grant) (link : Bool) : QueuedGrant :=
  let c := s.chan ch
  let e := s.classOf ch g
  let start := c.minislotTick g.start
  { grant := g, startTick := start, armTick := start - BitVec.ofNat 32 (c.symbolTicks Config.armLead),
    endTick := start + BitVec.ofNat 32 (g.length * c.minislotTicks),
    dataCount := g.length * c.spm.spm - e.lp - e.guardLen, link := link, armReached := false }

/-- The chain test (R41): `none` when the grant fails it, else its link mark. DESIGN CHOICE (log entry 35): a chain is
matched by 32-bit minislot numbers, as R41 words it, so a start minislot that is 2^32 / m away from the one that follows
the predecessor, and has the same start tick, is refused GRANT_CHAIN, although R35 calls the two the same grant. -/
def State.chainTest (s : State) (ch : Fin 6) (g : Grant) : Option Bool :=
  match s.predecessor ch with
  | none => some false
  | some (p, receiving) =>
    if p.grant.chain then
      if p.grant.station = g.station ∧ g.start = p.grant.start + BitVec.ofNat 32 p.grant.length ∧
          (s.classOf ch g).modulation = (s.classOf ch p.grant).modulation then
        some receiving
      else none
    else some false

/-- The order test (R42): the start tick lies fewer than 2^31 ticks beyond the predecessor's end tick, or at it. DESIGN
CHOICE (log entry 38): one exactly 2^31 ticks beyond is refused, as R42 words it, although neither of the two ticks is then
ahead of the other under R2. -/
def State.inOrder (s : State) (ch : Fin 6) (q : QueuedGrant) : Bool :=
  match s.predecessor ch with
  | none => true
  | some (p, _) => decide ((q.startTick - p.endTick).toNat < 2 ^ 31)

/-- One grant judged: the cause of its refusal, or what the queue will hold (R40 to R43). -/
def State.judgeGrant (s : State) (ch : Fin 6) (g : Grant) : Except Status QueuedGrant :=
  let e := s.classOf ch g
  if e.valid = false ∨ s.patterns[e.preamble] = [] then .error .badClass
  else if g.length * (s.chan ch).spm.spm < e.lp + e.guardLen + 1 then .error .badLength
  else
    match s.chainTest ch (admitGrant g) with
    | none => .error .grantChain
    | some link =>
      let q := s.derive ch (admitGrant g) link
      if !s.inOrder ch q then .error .grantOrder
      else if s.reached q.armTick then .error .grantLate
      else if Config.queueDepth ≤ (s.queue ch).length then .error .queueFull
      else .ok q

/-- The grants of a SCHEDULE in list order until the first refusal: the state after, the status, the number accepted
(R38). -/
def intake (ch : Fin 6) : List Grant → State → Nat → Bool → State × Status × Nat
  | [], s, n, clamped => (s, if clamped then .clamped else .ok, n)
  | g :: gs, s, n, clamped =>
    match s.judgeGrant ch g with
    | .error e => (s, e, n)
    | .ok q => intake ch gs (s.setQueue ch (s.queue ch ++ [q])) (n + 1) (clamped || (g.station == 16383 && g.chain))

/-- Free places of a queue (R37, R38). -/
def State.freePlaces (s : State) (ch : Fin 6) : Nat := Config.queueDepth - (s.queue ch).length

/-- A well-formed SCHEDULE on its channel (R37, R38). -/
def State.schedule (s : State) (m : Message) (gs : List Grant) (ch : Fin 6) : State :=
  if (s.chan ch).state = .running then
    let r := intake ch gs s 0 false
    r.1.respond m r.2.1 (beBytes 1 r.2.2 ++ beBytes 1 (r.1.freePlaces ch))
  else s.respond m .channelState (beBytes 1 0 ++ beBytes 1 (s.freePlaces ch))

/-- SCHEDULE is passed on (R37, R38). -/
def State.takeSchedule (s : State) (m : Message) : State :=
  s.passOn m (readSchedule m.body) .malformed roomSchedule fun s r =>
    s.onChannel m r.1 (beBytes 1 0 ++ beBytes 1 0) fun s ch => s.schedule m r.2 ch

/-- SCHEDULE (R37, R38). -/
def execSchedule (tag : Byte) (body : List Byte) (s : State) : Host.Outcome State Fault Refusal :=
  takeRequest ⟨kindSchedule, tag, body⟩ State.takeSchedule s

end Sys2Proof.Machine
end

