-- ==== Sys2Proof/Machine/Stations.lean ====
section
/-! DEFINITION. Profile requests, the directory's listing, and the Profile Ageing Sweep (chapter 7). -/

namespace Sys2Proof.Machine

/-! ### PROFILE BIND and UNBIND (R130 to R134) -/

/-- A profile as a BIND leaves it (R131). -/
def Profile.bound (p : Profile) (k : Key) (r : BindRequest) : Profile :=
  { p with state := .bound, key := some k, age := 0, failCount := 0, offset := 0, bias := 0, previous := none,
           lastMer := none, overridden := false, revertLimit := clampNat 1 7 r.revertLimit,
           current := if r.keep then p.current else defaultVector }

/-- A well-formed BIND: the tests in order, then the binding (R130, R131). -/
def State.bind (s : State) (m : Message) (r : BindRequest) : State :=
  if hc : r.channel < 6 then
    if hp : r.profile < 384 then
      let k : Key := ⟨r.station, ⟨r.channel, hc⟩⟩
      let p : Fin 384 := ⟨r.profile, hp⟩
      if (s.lookup k).isSome then s.respond m .keyExists []
      else if Config.directoryDepth ≤ s.directory.length then s.respond m .tableFull []
      else if (s.prof p).state ≠ .free then s.respond m .inUse []
      else
        ((s.setProf p ((s.prof p).bound k r)).setDirectory (insertEntry ⟨k, p⟩ s.directory)).respond m
          (if clampNat 1 7 r.revertLimit = r.revertLimit then .ok else .clamped) []
    else s.respond m .badIndex []
  else s.respond m .badChannel []

/-- PROFILE BIND is passed on (R130, R131). -/
def State.takeProfileBind (s : State) (m : Message) : State :=
  s.passOn m (readProfileBind m.body) .malformed roomPlain fun s r => s.bind m r

/-- PROFILE_BIND (R130, R131). -/
def execProfileBind (tag : Byte) (body : List Byte) (s : State) : Host.Outcome State Fault Refusal :=
  takeRequest ⟨kindProfileBind, tag, body⟩ State.takeProfileBind s

/-- The profile of a removed entry: FREE, or RETIRING while it is held or claimed (R132). -/
def Profile.unbound (p : Profile) : Profile :=
  if p.holder = none ∧ p.claim = none then Profile.free else { p with state := .retiring, key := none }

/-- A well-formed UNBIND (R132). -/
def State.unbind (s : State) (m : Message) (station ch : Nat) : State :=
  if hc : ch < 6 then
    let k : Key := ⟨station, ⟨ch, hc⟩⟩
    match s.lookup k with
    | none => s.respond m .notBound []
    | some p =>
      ((s.setProf p (s.prof p).unbound).setDirectory (removeEntry k s.directory)).respond m .ok []
  else s.respond m .badChannel []

/-- PROFILE UNBIND is passed on (R132). -/
def State.takeProfileUnbind (s : State) (m : Message) : State :=
  s.passOn m (readProfileUnbind m.body) .malformed roomPlain fun s r => s.unbind m r.1 r.2

/-- PROFILE_UNBIND (R132). -/
def execProfileUnbind (tag : Byte) (body : List Byte) (s : State) : Host.Outcome State Fault Refusal :=
  takeRequest ⟨kindProfileUnbind, tag, body⟩ State.takeProfileUnbind s

/-! ### PROFILE REVERT and CLEAR (R135, R136) -/

/-- The overridden flag is set when the profile has a holder (R125, R135, R136, R167). -/
def Profile.markOverridden (p : Profile) : Profile := { p with overridden := p.overridden || p.holder.isSome }

/-- A profile cleared (R136). -/
def Profile.cleared (p : Profile) : Profile :=
  { p.markOverridden with current := defaultVector, previous := none, offset := 0, bias := 0, failCount := 0 }

/-- A request on a BOUND or STALE profile: refused with BAD_INDEX or NOT_BOUND (R135, R136). -/
def State.onBoundProfile (s : State) (m : Message) (p : Nat) (change : Profile → Profile) : State :=
  if hp : p < 384 then
    let q := s.prof ⟨p, hp⟩
    match q.state with
    | .free | .retiring => s.respond m .notBound []
    | .bound | .stale => (s.setProf ⟨p, hp⟩ (change q)).respond m .ok []
  else s.respond m .badIndex []

/-- PROFILE REVERT is passed on (R135). -/
def State.takeProfileRevert (s : State) (m : Message) : State :=
  s.passOn m (readProfile m.body) .malformed roomPlain fun s p =>
    s.onBoundProfile m p fun q => q.markOverridden.revert

/-- PROFILE_REVERT (R135). -/
def execProfileRevert (tag : Byte) (body : List Byte) (s : State) : Host.Outcome State Fault Refusal :=
  takeRequest ⟨kindProfileRevert, tag, body⟩ State.takeProfileRevert s

/-- PROFILE CLEAR is passed on (R136). -/
def State.takeProfileClear (s : State) (m : Message) : State :=
  s.passOn m (readProfile m.body) .malformed roomPlain fun s p => s.onBoundProfile m p Profile.cleared

/-- PROFILE_CLEAR (R136). -/
def execProfileClear (tag : Byte) (body : List Byte) (s : State) : Host.Outcome State Fault Refusal :=
  takeRequest ⟨kindProfileClear, tag, body⟩ State.takeProfileClear s

/-! ### DIRECTORY GET (R129) -/

/-- One listed entry: station, channel, profile, state (section 10.6). -/
def State.entryBytes (s : State) (e : DirEntry) : List Byte :=
  beBytes 2 e.key.station ++ beBytes 1 e.key.channel.val ++ beBytes 2 e.profile.val ++
    beBytes 1 (s.prof e.profile).state.code

/-- The entries at or after a key, in ascending key order (R129). -/
def State.entriesFrom (s : State) (k : Key) : List DirEntry := s.directory.filter fun e => !Key.lt e.key k

/-- DIRECTORY GET's fields: the count, the more-follows mark, at most 128 entries (R129). -/
def State.directoryFields (s : State) (k : Key) : List Byte :=
  let es := s.entriesFrom k
  let page := es.take Config.directoryPage
  beBytes 1 page.length ++ [boolByte (decide (Config.directoryPage < es.length))] ++ page.flatMap s.entryBytes

/-- DIRECTORY GET is passed on (R129). -/
def State.takeDirectoryGet (s : State) (m : Message) : State :=
  s.passOn m (readDirectoryGet m.body) .malformed roomDirectoryGet fun s r =>
    s.respond m .ok (s.directoryFields ⟨r.1, r.2⟩)

/-- DIRECTORY_GET (R129). -/
def execDirectoryGet (tag : Byte) (body : List Byte) (s : State) : Host.Outcome State Fault Refusal :=
  takeRequest ⟨kindDirectoryGet, tag, body⟩ State.takeDirectoryGet s

/-! ### The ageing sweep (R138 to R142) -/

/-- The visit interval I: floor(ageing period × 25,600,000 / 384) (R138). -/
def visitInterval (ageingPeriod : Nat) : Nat := ageingPeriod * Config.ticksPerSecond / 384

/-- The visited profile is aged: BOUND and not held (R139). -/
def Profile.ages (p : Profile) : Bool := p.state == .bound && p.holder.isNone

/-- The treatment of one profile at a visit (R139). -/
def State.visitProfile (s : State) (p : Fin 384) : State :=
  let q := s.prof p
  let age := min 15 (q.age + 1)
  if q.ages then
    if age = s.sweep.ageLimit then
      (s.setProf p { q with age := age, state := .stale }).notify (.profileStale p q.key)
    else s.setProf p { q with age := age }
  else s

/-- One visit: the profile, the pointer, the next-visit tick (R138). -/
def State.visit (s : State) : State :=
  let s := s.visitProfile s.sweep.pointer
  s.setSweep { s.sweep with
    pointer := s.sweep.pointer + 1
    nextVisit := s.counter + BitVec.ofNat 32 (visitInterval s.sweep.ageingPeriod)
    visitReached := false }

/-- SWEEP_VISIT (R138): when the next-visit tick has been reached (R2). -/
def execSweepVisit (s : State) : Host.Outcome State Fault Refusal :=
  .next (s.unlessReset fun s => if s.sweep.visitReached then s.visit else s)

/-- All profiles in ascending index order (R142). -/
def profileIds : List (Fin 384) := List.finRange 384

/-- One profile brought into line with the age limit in force (R142). -/
def State.alignProfile (s : State) (p : Fin 384) : State :=
  let q := s.prof p
  match q.state with
  | .bound =>
    if s.sweep.ageLimit ≤ q.age then
      (s.setProf p { q with age := s.sweep.ageLimit, state := .stale }).notify (.profileStale p q.key)
    else s
  | .stale => s.setProf p { q with age := s.sweep.ageLimit }
  | .free | .retiring => s

/-- Every profile brought into line, in ascending index order (R142). -/
def State.alignAges (s : State) : State := profileIds.foldl State.alignProfile s

end Sys2Proof.Machine
end

