-- ==== Sys2Proof/Machine/Tables.lean ====
section
/-! DEFINITION. The table access pointer: SEEK, PUT and GET, and their items as the tables' owners take them (section
10.3, R27 to R32, R125, R126). -/

namespace Sys2Proof.Machine

/-! ### Addressed entries -/

/-- The pointer's channel of the CLASS table. A SEEK to that table takes none outside 0 .. 5 (R189). -/
def AccessPointer.classChannel (a : AccessPointer) : Fin 6 := if h : a.channel < 6 then ⟨a.channel, h⟩ else 0

/-- The pointer is at the end of its table (section 10.3). -/
def AccessPointer.atEnd (a : AccessPointer) : Bool := decide (a.table.items ≤ a.index)

def AccessPointer.advance (a : AccessPointer) : AccessPointer := { a with index := a.index + 1 }

/-- The profile and the tap that an index of a vector table names: profile × 24 + tap (section 10.3). -/
def vectorProfile (i : Nat) : Fin 384 := if h : i / 24 < 384 then ⟨i / 24, h⟩ else 0

def vectorTap (i : Nat) : Fin 24 := ⟨i % 24, Nat.mod_lt _ (by decide)⟩

/-- The profile, class or pattern that an index of its table names. -/
def metaProfile (i : Nat) : Fin 384 := if h : i < 384 then ⟨i, h⟩ else 0

def classIndex (i : Nat) : Fin 6 := if h : i < 6 then ⟨i, h⟩ else 0

def patternIndex (i : Nat) : Fin 8 := if h : i < 8 then ⟨i, h⟩ else 0

/-! ### TABLE SEEK (R189) -/

/-- A well-formed SEEK (R189). DESIGN CHOICE (log entry 37): R189 gives its two refusals no order; a SEEK to the CLASS table
that meets both is answered BAD_CHANNEL. -/
def State.seek (s : State) (m : Message) (t : TableId) (ch i : Nat) : State :=
  if t = .classes ∧ 6 ≤ ch then s.respond m .badChannel []
  else if t.items ≤ i then s.respond m .badIndex []
  else (s.setLink { s.link with pointer := ⟨t, ch, i⟩ }).respond m .ok []

/-- TABLE SEEK is passed on (R189). -/
def State.takeTableSeek (s : State) (m : Message) : State :=
  s.passOn m (readTableSeek m.body) .malformed roomPlain fun s r => s.seek m r.1 r.2.1 r.2.2

/-- TABLE_SEEK (R189). -/
def execTableSeek (tag : Byte) (body : List Byte) (s : State) : Host.Outcome State Fault Refusal :=
  takeRequest ⟨kindTableSeek, tag, body⟩ State.takeTableSeek s

/-! ### Writing an item -/

/-- A μ shift brought into its range: 0 stays, else 8 .. 24 (R27). -/
def clampShift (v : Nat) : Nat := if v = 0 then 0 else clampNat 8 24 v

/-- Lp against the pattern its preamble id names: 8 .. 64, then at most the length of a pattern of 8 or more (R27). -/
def clampLp (lp patternLength : Nat) : Nat :=
  let v := clampNat 8 64 lp
  if 8 ≤ patternLength then min v patternLength else v

/-- A class entry as it is stored (R27). -/
def storedEntry (e : ClassEntry) (patternLength : Nat) : ClassEntry :=
  { e with lp := clampLp e.lp patternLength, w := min 127 e.w, rho := clampNat 1 16 e.rho,
           muTrain := clampShift e.muTrain, muTrack := clampShift e.muTrack, guardLen := min 15 e.guardLen,
           gate := min 31 e.gate }

/-- What became of an item: taken, with whether a value was clamped, or refused. -/
inductive ItemResult where
  | taken (s : State) (clamped : Bool)
  | refused (status : Status)

/-- A class entry item (R27, R28). -/
def State.writeClass (s : State) (ch : Fin 6) (i : Fin 6) (e : ClassEntry) : ItemResult :=
  if (s.chan ch).state.active then .refused .channelState
  else
    let v := storedEntry e s.patterns[e.preamble].length
    .taken (s.setChan ch { s.chan ch with classes := (s.chan ch).classes.set i v }) (v != e)

/-- A valid class of a RUNNING or STOPPING channel names pattern `i` (R31). -/
def State.patternInUse (s : State) (i : Fin 8) : Bool :=
  channelIds.any fun ch => (s.chan ch).state.active && (s.chan ch).classes.toList.any fun e => e.valid && e.preamble == i

/-- A class entry after pattern `i` has become `n` symbols long: an Lp above it is lowered (R32). -/
def lowerEntry (i : Fin 8) (n : Nat) (e : ClassEntry) : ClassEntry :=
  if e.preamble = i ∧ 8 ≤ n ∧ n < e.lp then { e with lp := n } else e

/-- The write lowers an Lp (R32). -/
def State.lowersLp (s : State) (i : Fin 8) (n : Nat) : Bool :=
  channelIds.any fun ch => (s.chan ch).classes.toList.any fun e => lowerEntry i n e != e

/-- A pattern item (R30, R31, R32). -/
def State.writePattern (s : State) (i : Fin 8) (qs : List Quadrant) : ItemResult :=
  if s.patternInUse i then .refused .inUse
  else
    .taken
      { s with patterns := s.patterns.set i qs,
               channels := s.channels.map fun c => { c with classes := c.classes.map (lowerEntry i qs.length) } }
      (s.lowersLp i qs.length)

/-- One tap of the current vector; a held profile becomes overridden (R125, R167). -/
def Profile.putCurrent (p : Profile) (tap : Fin 24) (c : Coef) : Profile :=
  { p.markOverridden with current := p.current.set tap c }

/-- One tap of the previous vector; an absent one first becomes the default vector (R125). -/
def Profile.putPrevious (p : Profile) (tap : Fin 24) (c : Coef) : Profile :=
  { p with previous := some ((p.previous.getD defaultVector).set tap c) }

/-- c, b and the revert limit, each clamped; a fail count at or above the new limit is lowered (R125). -/
def Profile.putMeta (p : Profile) (c b : Int) (revertLimit : Nat) : Profile :=
  let rl := clampNat 1 7 revertLimit
  { p with offset := clampInt (-127) 127 c, bias := clampInt (-6) 6 b, revertLimit := rl,
           failCount := if rl ≤ p.failCount then rl - 1 else p.failCount }

/-- Some value of a META item lies outside its range (R125). -/
def metaClamps (c b : Int) (revertLimit : Nat) : Bool :=
  clampInt (-127) 127 c != c || clampInt (-6) 6 b != b || clampNat 1 7 revertLimit != revertLimit

/-- One item taken by the owner of the pointer's table at the addressed entry (R190). The item's format is the
table's. -/
def State.writeItem (s : State) (a : AccessPointer) (i : PutItem) : ItemResult :=
  match i with
  | .classEntry e => s.writeClass a.classChannel (classIndex a.index) e
  | .pattern qs => s.writePattern (patternIndex a.index) qs
  | .coefficient c =>
    let p := vectorProfile a.index
    let q := s.prof p
    .taken (s.setProf p (if a.table = .profilePrevious then q.putPrevious (vectorTap a.index) c
                         else q.putCurrent (vectorTap a.index) c)) false
  | .profileFields c b rl =>
    let p := metaProfile a.index
    .taken (s.setProf p ((s.prof p).putMeta c b rl)) (metaClamps c b rl)

/-! ### TABLE PUT (R190) -/

def State.setTransfer (s : State) (t : Option Transfer) : State := s.setLink { s.link with transfer := t }

/-- The message that a PUT's or GET's response answers. -/
def putMessage (tag : Byte) : Message := ⟨kindTablePut, tag, []⟩

def getMessage (tag : Byte) : Message := ⟨kindTableGet, tag, []⟩

/-- Items moved, then the pointer as it stands (section 10.6). -/
def AccessPointer.putFields (a : AccessPointer) (moved : Nat) : List Byte :=
  beBytes 1 moved ++ beBytes 1 a.table.code ++ beBytes 1 a.channel ++ beBytes 2 a.index

/-- The end of a PUT: its response, with the pointer as it stands (R190). -/
def State.endPut (s : State) (tag : Byte) (status : Status) (moved : Nat) : State :=
  (s.setTransfer none).respond (putMessage tag) status (s.link.pointer.putFields moved)

/-- CLAMPED or OK (R187). -/
def clampStatus (clamped : Bool) : Status := if clamped then .clamped else .ok

/-- A well-formed PUT: at the end of the table it writes nothing; otherwise its items are handed over one by one, each
at its own event (R190). -/
def State.put (s : State) (tag : Byte) (items : List PutItem) : State :=
  if s.link.pointer.atEnd then s.endPut tag .endReached 0
  else s.setTransfer (some (.put tag items 0 false))

/-- TABLE PUT is passed on (R190). -/
def State.takeTablePut (s : State) (m : Message) : State :=
  s.passOn m (readTablePut s.link.pointer.table m.body) .malformed roomTablePut fun s items => s.put m.tag items

/-- TABLE_PUT (R190). -/
def execTablePut (tag : Byte) (body : List Byte) (s : State) : Host.Outcome State Fault Refusal :=
  takeRequest ⟨kindTablePut, tag, body⟩ State.takeTablePut s

/-- One item of a PUT: written and the pointer advanced, or refused; the last one, the end of the table or a refusal
ends the PUT (R187, R190). -/
def State.putOne (s : State) (tag : Byte) (i : PutItem) (left : List PutItem) (moved : Nat) (clamped : Bool) : State :=
  match s.writeItem s.link.pointer i with
  | .refused status => s.endPut tag status moved
  | .taken t c =>
    let a := t.link.pointer.advance
    let t := t.setLink { t.link with pointer := a }
    if left = [] then t.endPut tag (clampStatus (clamped || c)) (moved + 1)
    else if a.atEnd then t.endPut tag .endReached (moved + 1)
    else t.setTransfer (some (.put tag left (moved + 1) (clamped || c)))

/-- An item that ends its PUT or GET is taken when the output queue has room for the response, `room`; any other at once
(R179; DESIGN CHOICE, log entry 13). -/
def State.unlessFull (s t : State) (room : Nat) : State :=
  if t.link.transfer.isSome ∨ room ≤ s.output.room then t else s

/-- PUT_ITEM (R190): the next item of the PUT under way. -/
def execPutItem (s : State) : Host.Outcome State Fault Refusal :=
  .next (s.unlessReset fun s =>
    match s.link.transfer with
    | some (.put tag (i :: left) moved clamped) => s.unlessFull (s.putOne tag i left moved clamped) roomTablePut
    | some (.put _ [] _ _) | some (.get _ _ _ _ _) | none => s)

/-! ### TABLE GET (R191) -/

/-- The addressed entry's bytes as it stands (R126, R191). -/
def State.readEntry (s : State) (a : AccessPointer) : List Byte :=
  match a.table with
  | .classes => classBytes (s.chan a.classChannel).classes[classIndex a.index]
  | .preambles => patternBytes s.patterns[patternIndex a.index]
  | .profileCurrent => coefBytes (s.prof (vectorProfile a.index)).current[vectorTap a.index]
  | .profilePrevious => previousBytes (s.prof (vectorProfile a.index)).previous (vectorTap a.index)
  | .profileMeta => (s.prof (metaProfile a.index)).metaBytes

/-- Table, channel and index at which reading began, the count, the items (section 10.6). -/
def AccessPointer.getFields (a : AccessPointer) (moved : Nat) (got : List Byte) : List Byte :=
  beBytes 1 a.table.code ++ beBytes 1 a.channel ++ beBytes 2 a.index ++ beBytes 1 moved ++ got

/-- The end of a GET: its response (R191). -/
def State.endGet (s : State) (tag : Byte) (start : AccessPointer) (status : Status) (moved : Nat) (got : List Byte) :
    State :=
  (s.setTransfer none).respond (getMessage tag) status (start.getFields moved got)

/-- A well-formed GET (R191). -/
def State.get (s : State) (tag : Byte) (n : Nat) : State :=
  if s.link.pointer.atEnd then s.endGet tag s.link.pointer .endReached 0 []
  else s.setTransfer (some (.get tag s.link.pointer n 0 []))

/-- TABLE GET is passed on (R191). -/
def State.takeTableGet (s : State) (m : Message) : State :=
  s.passOn m (readTableGet m.body) .malformed roomTableGet fun s n => s.get m.tag n

/-- TABLE_GET (R191). -/
def execTableGet (tag : Byte) (body : List Byte) (s : State) : Host.Outcome State Fault Refusal :=
  takeRequest ⟨kindTableGet, tag, body⟩ State.takeTableGet s

/-- One item of a GET: read and the pointer advanced; the count or the end of the table ends the GET (R191). -/
def State.getOne (s : State) (tag : Byte) (start : AccessPointer) (left moved : Nat) (got : List Byte) : State :=
  let bytes := got ++ s.readEntry s.link.pointer
  let a := s.link.pointer.advance
  let t := s.setLink { s.link with pointer := a }
  if left ≤ 1 then t.endGet tag start .ok (moved + 1) bytes
  else if a.atEnd then t.endGet tag start .endReached (moved + 1) bytes
  else t.setTransfer (some (.get tag start (left - 1) (moved + 1) bytes))

/-- GET_ITEM (R191): the next item of the GET under way. -/
def execGetItem (s : State) : Host.Outcome State Fault Refusal :=
  .next (s.unlessReset fun s =>
    match s.link.transfer with
    | some (.get tag start left moved got) =>
      s.unlessFull (s.getOne tag start left moved got)
        (roomTableGetEmpty + (got ++ s.readEntry s.link.pointer).length)
    | some (.put _ _ _ _) | none => s)

end Sys2Proof.Machine
end

