-- ==== Sys2Proof/Machine/Node.lean ====
section
/-! DEFINITION. Node requests and the reset pin: NODE SET, RESET NODE, STATUS GET, RESET_N (sections 1.6, 1.7, 10.4). -/

namespace Sys2Proof.Machine

/-! ### NODE SET (R13, R14, R141, R142, R194) -/

/-- The settings brought into their ranges (R13, R141). -/
def clampSettings (n : NodeSettings) : NodeSettings :=
  { markTimeout := clampNat 20 1000 n.markTimeout, holdoverLimit := clampNat 1 60 n.holdoverLimit,
    stepTolerance := min 255 n.stepTolerance, ageingPeriod := clampNat 1 3600 n.ageingPeriod,
    ageLimit := clampNat 1 15 n.ageLimit }

/-- All five settings replaced (R194). -/
def State.applySettings (s : State) (n : NodeSettings) : State :=
  (s.setTimebase { s.timebase with markTimeout := n.markTimeout, holdoverLimit := n.holdoverLimit,
                                   stepTolerance := n.stepTolerance }).setSweep
    { s.sweep with ageingPeriod := n.ageingPeriod, ageLimit := n.ageLimit }

/-- The expiry that the new values leave already reached (R14). -/
def State.expireNow (s : State) : State :=
  if s.markTimedOut then s.enterHoldover else if s.holdoverOver then s.loseSync else s

/-- NODE SET: settings, response, then the expiry, the profiles' alignment to a changed age limit, the next-visit tick
(R194). -/
def State.nodeSet (s : State) (m : Message) (n : NodeSettings) : State :=
  let v := clampSettings n
  let changed := decide (v.ageLimit ≠ s.sweep.ageLimit)
  let s := ((s.applySettings v).respond m (clampStatus (decide (v ≠ n))) []).expireNow
  let s := if changed then s.alignAges else s
  s.setSweep { s.sweep with
    nextVisit := s.counter + BitVec.ofNat 32 (visitInterval v.ageingPeriod), visitReached := false }

/-- NODE SET is passed on (R194). -/
def State.takeNodeSet (s : State) (m : Message) : State :=
  s.passOn m (readNodeSet m.body) .malformed roomPlain fun s n => s.nodeSet m n

/-- NODE_SET (R194). -/
def execNodeSet (tag : Byte) (body : List Byte) (s : State) : Host.Outcome State Fault Refusal :=
  takeRequest ⟨kindNodeSet, tag, body⟩ State.takeNodeSet s

/-! ### RESET NODE (R16, R34, R78, R145, R195) -/

/-- A profile at RESET NODE: holder, claim and overridden flag cleared; RETIRING becomes FREE (R145). -/
def Profile.atNodeReset (p : Profile) : Profile :=
  if p.state = .retiring then Profile.free else { p with holder := none, claim := none, overridden := false }

/-- A channel at RESET NODE: its queue flushed, OFF; its settings, classes and lock kept (R34). -/
def Channel.atNodeReset (c : Channel) : Channel := { c with state := .off, queue := [] }

/-- The reset's effects after its response: UNSYNCED; queues, profiles, lanes without record, channels (R195). -/
def State.nodeReset (s : State) : State :=
  { s with timebase := { s.timebase with sync := .unsynced }
           profiles := s.profiles.map Profile.atNodeReset
           lanes := Vector.replicate 12 Lane.idle
           channels := s.channels.map Channel.atNodeReset }

/-- RESET NODE is passed on (R195). -/
def State.takeResetNode (s : State) (m : Message) : State :=
  s.passOn m (readEmpty m.body) .malformed roomPlain fun s _ => (s.respond m .ok []).nodeReset

/-- RESET_NODE (R195). -/
def execResetNode (tag : Byte) (body : List Byte) (s : State) : Host.Outcome State Fault Refusal :=
  takeRequest ⟨kindResetNode, tag, body⟩ State.takeResetNode s

/-! ### STATUS GET (R193) -/

/-- Profiles in a state (R146). -/
def State.profileCount (s : State) (x : ProfileState) : Nat := profileIds.countP fun p => (s.prof p).state == x

/-- A channel's three bytes: state, queue fill, lanes (section 10.6). -/
def State.channelStatus (s : State) (ch : Fin 6) : List Byte :=
  beBytes 1 (s.chan ch).state.code ++ beBytes 1 (s.queue ch).length ++ beBytes 1 (s.lanesOf ch).length

/-- STATUS GET's fields as they stand (R193). -/
def State.statusFields (s : State) : List Byte :=
  beBytes 1 s.timebase.sync.code ++ bytes32 s.counter ++ channelIds.flatMap s.channelStatus ++ beBytes 1 s.freeLanes.length ++
    beBytes 2 (s.profileCount .free) ++ beBytes 2 (s.profileCount .bound) ++ beBytes 2 (s.profileCount .stale) ++
    beBytes 2 (s.profileCount .retiring) ++ beBytes 2 s.directory.length ++ beBytes 4 s.output.fill

/-- STATUS GET is passed on (R193). -/
def State.takeStatusGet (s : State) (m : Message) : State :=
  s.passOn m (readEmpty m.body) .malformed roomStatusGet fun s _ => s.respond m .ok s.statusFields

/-- STATUS_GET (R193). -/
def execStatusGet (tag : Byte) (body : List Byte) (s : State) : Host.Outcome State Fault Refusal :=
  takeRequest ⟨kindStatusGet, tag, body⟩ State.takeStatusGet s

/-! ### Held requests (R179, R188) -/

/-- A message passed on to the owner of its kind (R186). -/
def State.takeMessage (s : State) (m : Message) : State :=
  if m.kind = kindTimeMark then s.takeTimeMark m
  else if m.kind = kindNodeSet then s.takeNodeSet m
  else if m.kind = kindResetNode then s.takeResetNode m
  else if m.kind = kindChannelSet then s.takeChannelSet m
  else if m.kind = kindChannelStart then s.takeChannelStart m
  else if m.kind = kindChannelStop then s.takeChannelStop m
  else if m.kind = kindChannelHalt then s.takeChannelHalt m
  else if m.kind = kindSchedule then s.takeSchedule m
  else if m.kind = kindProfileBind then s.takeProfileBind m
  else if m.kind = kindProfileUnbind then s.takeProfileUnbind m
  else if m.kind = kindProfileRevert then s.takeProfileRevert m
  else if m.kind = kindProfileClear then s.takeProfileClear m
  else if m.kind = kindTableSeek then s.takeTableSeek m
  else if m.kind = kindTablePut then s.takeTablePut m
  else if m.kind = kindTableGet then s.takeTableGet m
  else if m.kind = kindDirectoryGet then s.takeDirectoryGet m
  else if m.kind = kindStatusGet then s.takeStatusGet m
  else s.takeUnknown m

/-- The request held for room is passed on when the removals have freed enough (R179). -/
def State.takeHeld (s : State) : State :=
  match s.link.head with
  | none => s
  | some m => if s.link.holding then s.takeMessage m else s

/-- FRAME_SEND (R188): one frame goes out, and a request held for room is then passed on if it now has it (R179). -/
def execFrameSend (s : State) : Host.Outcome State Fault Refusal := .next (s.unlessReset fun s => s.sendFrame.takeHeld)

/-! ### RESET_N (R1, R15) -/

/-- RESET_N_ASSERT: every value at its power-on value while the pin is low; the lock lines are inputs and stay (R15, R33,
R55, R79, R144, R182, R196). -/
def execResetNAssert (s : State) : Host.Outcome State Fault Refusal :=
  .next { State.reset with
    resetHeld := true
    channels := s.channels.map fun c => { Channel.reset with lock := c.lock }
    pending := s.pending }

/-- RESET_N_RELEASE: the counter counts from the next reference period on (R1). -/
def execResetNRelease (s : State) : Host.Outcome State Fault Refusal := .next { s with resetHeld := false }

end Sys2Proof.Machine
end

