-- ==== Sys2Proof/Machine/Dispatch.lean ====
section
/-! DEFINITION. The meaning of every command. -/

namespace Sys2Proof.Machine

def exec (i : Instr) (s : State) : Host.Outcome State Fault Refusal :=
  match i with
  | .resetNAssert => Sys2Proof.Machine.execResetNAssert s
  | .resetNRelease => Sys2Proof.Machine.execResetNRelease s
  | .frameReceived frame => Sys2Proof.Machine.execFrameReceived frame s
  | .frameSend => Sys2Proof.Machine.execFrameSend s
  | .timeMark tag body => Sys2Proof.Machine.execTimeMark tag body s
  | .markTimeoutExpiry => Sys2Proof.Machine.execMarkTimeoutExpiry s
  | .holdoverLimitExpiry => Sys2Proof.Machine.execHoldoverLimitExpiry s
  | .nodeSet tag body => Sys2Proof.Machine.execNodeSet tag body s
  | .resetNode tag body => Sys2Proof.Machine.execResetNode tag body s
  | .channelSet tag body => Sys2Proof.Machine.execChannelSet tag body s
  | .channelStart tag body => Sys2Proof.Machine.execChannelStart tag body s
  | .channelStop tag body => Sys2Proof.Machine.execChannelStop tag body s
  | .channelHalt tag body => Sys2Proof.Machine.execChannelHalt tag body s
  | .schedule tag body => Sys2Proof.Machine.execSchedule tag body s
  | .profileBind tag body => Sys2Proof.Machine.execProfileBind tag body s
  | .profileUnbind tag body => Sys2Proof.Machine.execProfileUnbind tag body s
  | .profileRevert tag body => Sys2Proof.Machine.execProfileRevert tag body s
  | .profileClear tag body => Sys2Proof.Machine.execProfileClear tag body s
  | .tableSeek tag body => Sys2Proof.Machine.execTableSeek tag body s
  | .tablePut tag body => Sys2Proof.Machine.execTablePut tag body s
  | .putItem => Sys2Proof.Machine.execPutItem s
  | .tableGet tag body => Sys2Proof.Machine.execTableGet tag body s
  | .getItem => Sys2Proof.Machine.execGetItem s
  | .directoryGet tag body => Sys2Proof.Machine.execDirectoryGet tag body s
  | .statusGet tag body => Sys2Proof.Machine.execStatusGet tag body s
  | .unknownKind kind tag body => Sys2Proof.Machine.execUnknownKind kind tag body s
  | .inputLockLost ch => Sys2Proof.Machine.execInputLockLost ch s
  | .inputLockLocked ch => Sys2Proof.Machine.execInputLockLocked ch s
  | .arming ch => Sys2Proof.Machine.execArming ch s
  | .windowOpening l => Sys2Proof.Machine.execWindowOpening l s
  | .searchEnd l => Sys2Proof.Machine.execSearchEnd l s
  | .sampleArrival ch re im => Sys2Proof.Machine.execSampleArrival ch re im s
  | .endEvent l => Sys2Proof.Machine.execEndEvent l s
  | .closeCompletion l => Sys2Proof.Machine.execCloseCompletion l s
  | .sweepVisit => Sys2Proof.Machine.execSweepVisit s
  | .tick => Sys2Proof.Machine.execTick s

end Sys2Proof.Machine
end

