-- ==== Sys2Proof/Safety.lean ====
section
/-! DEFINITION. What counts as a legal state of the PV-6412, in the terms the statements use: the laws of the manual
that hold between any two events, and the conditions under which a request is taken. -/

namespace Sys2Proof

/-- The message a command carries to the Node Link Interface, if it carries one (section 10.6). -/
def Instr.message : Instr → Option Message
  | .timeMark t b => some ⟨kindTimeMark, t, b⟩
  | .nodeSet t b => some ⟨kindNodeSet, t, b⟩
  | .resetNode t b => some ⟨kindResetNode, t, b⟩
  | .channelSet t b => some ⟨kindChannelSet, t, b⟩
  | .channelStart t b => some ⟨kindChannelStart, t, b⟩
  | .channelStop t b => some ⟨kindChannelStop, t, b⟩
  | .channelHalt t b => some ⟨kindChannelHalt, t, b⟩
  | .schedule t b => some ⟨kindSchedule, t, b⟩
  | .profileBind t b => some ⟨kindProfileBind, t, b⟩
  | .profileUnbind t b => some ⟨kindProfileUnbind, t, b⟩
  | .profileRevert t b => some ⟨kindProfileRevert, t, b⟩
  | .profileClear t b => some ⟨kindProfileClear, t, b⟩
  | .tableSeek t b => some ⟨kindTableSeek, t, b⟩
  | .tablePut t b => some ⟨kindTablePut, t, b⟩
  | .tableGet t b => some ⟨kindTableGet, t, b⟩
  | .directoryGet t b => some ⟨kindDirectoryGet, t, b⟩
  | .statusGet t b => some ⟨kindStatusGet, t, b⟩
  | .unknownKind k t b => some ⟨k, t, b⟩
  | .resetNAssert | .resetNRelease | .frameReceived _ | .frameSend | .markTimeoutExpiry | .holdoverLimitExpiry
  | .putItem | .getItem | .inputLockLost _ | .inputLockLocked _ | .arming _ | .windowOpening _ | .searchEnd _
  | .sampleArrival _ _ _ | .endEvent _ | .closeCompletion _ | .sweepVisit | .tick => none

/-- The message a command carries has the form its kind gives; `table` is the access pointer's, which fixes the item
format of a TABLE PUT (R186, R190). A message of an unknown kind has none. -/
def Instr.readable (table : TableId) : Instr → Bool
  | .timeMark _ b => (readTimeMark b).isSome
  | .nodeSet _ b => (readNodeSet b).isSome
  | .resetNode _ b | .statusGet _ b => (readEmpty b).isSome
  | .channelSet _ b => (readChannelSet b).isSome
  | .channelStart _ b | .channelStop _ b | .channelHalt _ b => (readChannel b).isSome
  | .schedule _ b => (readSchedule b).isSome
  | .profileBind _ b => (readProfileBind b).isSome
  | .profileUnbind _ b => (readProfileUnbind b).isSome
  | .profileRevert _ b | .profileClear _ b => (readProfile b).isSome
  | .tableSeek _ b => (readTableSeek b).isSome
  | .tablePut _ b => (readTablePut table b).isSome
  | .tableGet _ b => (readTableGet b).isSome
  | .directoryGet _ b => (readDirectoryGet b).isSome
  | .unknownKind _ _ _ => false
  | .resetNAssert | .resetNRelease | .frameReceived _ | .frameSend | .markTimeoutExpiry | .holdoverLimitExpiry
  | .putItem | .getItem | .inputLockLost _ | .inputLockLocked _ | .arming _ | .windowOpening _ | .searchEnd _
  | .sampleArrival _ _ _ | .endEvent _ | .closeCompletion _ | .sweepVisit | .tick => true

/-- The length of the greatest response to a well-formed request of the command's kind; TIME MARK has none and is passed
on without a test of room (R179, section 10.6). -/
def Instr.responseRoom : Instr → Nat
  | .channelHalt _ _ => 7
  | .schedule _ _ => 8
  | .tablePut _ _ => 11
  | .tableGet _ _ => 843
  | .directoryGet _ _ => 776
  | .statusGet _ _ => 44
  | .nodeSet _ _ | .resetNode _ _ | .channelSet _ _ | .channelStart _ _ | .channelStop _ _ | .profileBind _ _
  | .profileUnbind _ _ | .profileRevert _ _ | .profileClear _ _ | .tableSeek _ _ | .unknownKind _ _ _ => 6
  | .timeMark _ _ | .resetNAssert | .resetNRelease | .frameReceived _ | .frameSend | .markTimeoutExpiry
  | .holdoverLimitExpiry | .putItem | .getItem | .inputLockLost _ | .inputLockLocked _ | .arming _ | .windowOpening _
  | .searchEnd _ | .sampleArrival _ _ _ | .endEvent _ | .closeCompletion _ | .sweepVisit | .tick => 0

/-- The values that a PUT item can carry once its form has been judged (section 10.6, R30). -/
def PutItem.Fits : PutItem → Prop
  | .classEntry e => e.lp < 256 ∧ e.w < 256 ∧ e.rho < 256 ∧ e.muTrain < 256 ∧ e.muTrack < 256 ∧ e.guardLen < 256 ∧
      e.gate < 256 ∧ e.floor < 2 ^ 24
  | .pattern qs => qs.length = 0 ∨ (8 ≤ qs.length ∧ qs.length ≤ 64)
  | .coefficient _ => True
  | .profileFields c b rl => -2 ^ 15 ≤ c ∧ c < 2 ^ 15 ∧ -128 ≤ b ∧ b < 128 ∧ rl < 256

/-- The item has the format of the table (section 10.6). -/
def PutItem.OfTable : PutItem → TableId → Prop
  | .classEntry _, t => t = .classes
  | .pattern _, t => t = .preambles
  | .coefficient _, t => t = .profileCurrent ∨ t = .profilePrevious
  | .profileFields _ _ _, t => t = .profileMeta

/-- A class entry's stored values, after clamping (table of section 2.5, R27). -/
structure ClassEntry.InRange (e : ClassEntry) : Prop where
  lp : 8 ≤ e.lp ∧ e.lp ≤ 64
  w : e.w ≤ 127
  rho : 1 ≤ e.rho ∧ e.rho ≤ 16
  muTrain : e.muTrain = 0 ∨ (8 ≤ e.muTrain ∧ e.muTrain ≤ 24)
  muTrack : e.muTrack = 0 ∨ (8 ≤ e.muTrack ∧ e.muTrack ≤ 24)
  guardLen : e.guardLen ≤ 15
  gate : e.gate ≤ 31
  floor : e.floor < 2 ^ 24

namespace Machine

/-! ### Taking a request -/

/-- A request is taken at once: RESET_N is high, no PUT or GET is under way, no other message stands before it, and the
output queue has the room its response can need (R179, R185, R190). -/
structure State.Ready (s : State) (m : Message) (room : Nat) : Prop where
  running : s.resetHeld = false
  idle : s.link.transfer = none
  atHead : s.link.inbound = [] ∨ s.link.head = some m
  fits : room ≤ s.output.room

/-- The state once the message at the head has been taken. -/
def State.taken (s : State) : State := { s with link := s.link.dropHead }

/-- The state with a response to a message at the tail of the output queue (R177, R186). -/
def State.answered (s : State) (m : Message) (status : Status) (fields : List Byte) : State :=
  { s with output := { s.output with
      items := s.output.items ++ [.response { tag := m.tag, kind := m.kind, status := status, fields := fields }] } }

/-! ### What an abort hands over -/

/-- Two records report the same burst: they agree in all but what a judgement or the emission adds (R71, R76, R174). -/
structure BurstRecord.SameBurst (r a : BurstRecord) : Prop where
  channel : r.channel = a.channel
  cls : r.cls = a.cls
  modulation : r.modulation = a.modulation
  outcome : r.outcome = a.outcome
  cause : r.cause = a.cause
  station : r.station = a.station
  start : r.start = a.start
  lane : r.lane = a.lane
  measurement : r.measurement = a.measurement
  sums : r.sums = a.sums
  symbols : r.symbols = a.symbols
  linked : r.flags.linked = a.flags.linked

/-- The abort of the lane hands over a record: in CLOSING the one it has fixed, before that one under every disposition
but SILENT (R19, R74, R76). -/
def Lane.abortEmits (x : Lane) (d : Disposition) : Bool :=
  match x.state with
  | .free => false
  | .closing => x.record.isSome
  | .armed | .searching | .training | .tracking => d != .silent

/-- The record that the abort of lane `l`, standing as `x`, hands over: ABORTED with what the state had reached (table of
R75), or in CLOSING the burst that it fixed (R76); SATURATED and HOLDOVER as they stand (R12, R75). -/
structure Lane.AbortYields (x : Lane) (l : Fin 12) (c : AbortCause) (d : Disposition) (counter : Tick) (r : BurstRecord) :
    Prop where
  closing : x.state = .closing → ∃ a, x.record = some a ∧ r.SameBurst a
  identity : x.state ≠ .closing → r.channel = x.channel ∧ r.cls = x.grant.grant.cls ∧ r.modulation = x.cls.modulation ∧
    r.station = x.grant.grant.station ∧ r.start = x.grant.grant.start ∧ r.lane = some l
  outcome : x.state ≠ .closing → r.outcome = .aborted ∧ r.cause = some c ∧ r.gate = none ∧ r.recentre = none ∧
    r.flags.linked = false
  measurement : x.state ≠ .closing → r.measurement = x.measurement
  sums : x.state ≠ .closing → r.sums = if x.state = .tracking then some x.member else none
  symbols : x.state ≠ .closing → r.symbols =
    if d = .withList then some (if x.state = .tracking then x.symbols.map fun y => (y.i, y.q) else []) else none
  ranging : x.state ≠ .closing → r.ranging.isSome = x.grant.grant.ranging
  emitted : r.counter = counter ∧ r.flags.saturated = x.saturated ∧ r.flags.holdover = x.holdoverMark

/-- What an event of the reception hands to the Record Builder: the record of an aborted lane, the record of a grant that
takes no lane, or a notice (R171, R180). -/
inductive Handed where
  | aborted (l : Fin 12) (r : BurstRecord)
  | laneless (r : BurstRecord)
  | notice (e : NoticeEvent)
  deriving DecidableEq, Repr

/-- One handover placed (R178, R181). -/
def OutputQueue.placeHanded (o : OutputQueue) (counter : Tick) : Handed → OutputQueue
  | .aborted _ r | .laneless r => o.placeRecord r
  | .notice e => o.placeNotice counter e

/-- Handovers placed in order. -/
def OutputQueue.placeAll (o : OutputQueue) (counter : Tick) (hs : List Handed) : OutputQueue :=
  hs.foldl (fun o h => o.placeHanded counter h) o

/-- The aborted lanes among the handovers, with their records. -/
def abortedOf (hs : List Handed) : List (Fin 12 × BurstRecord) :=
  hs.filterMap fun h => match h with
    | .aborted l r => some (l, r)
    | .laneless _ | .notice _ => none

/-- The records of grants that took no lane among the handovers. -/
def lanelessOf (hs : List Handed) : List BurstRecord :=
  hs.filterMap fun h => match h with
    | .laneless r => some r
    | .aborted _ _ | .notice _ => none

/-! ### The fallback of a linked head -/

/-- The fallback of the head `g` of a channel, with `rest` behind it and none of that due, takes `w` to `t` (R51, R52): the
head leaves its queue and is armed at once, as R46 has it, whether its arm tick is reached or not. The lock LOST, the
window-open tick passed, or no lane FREE yield its record; else the lowest FREE lane takes it, and checks out (R57). -/
def State.FallsBack (w t : State) (ch : Fin 6) (g : QueuedGrant) (rest : List QueuedGrant) : Prop :=
  ∀ (c : Int) (e : ClassEntry) (opens ends : Tick), c = w.expectedOffset ch g.grant →
    e = (w.chan ch).classes[g.grant.cls] →
    opens = g.startTick + BitVec.ofInt 32 ((c - e.w) * (tps (w.chan ch).rate / 4 : Nat)) →
    ends = g.startTick + BitVec.ofInt 32
      ((c + e.w) * (tps (w.chan ch).rate / 4 : Nat) + (min e.lp 16 * tps (w.chan ch).rate : Nat)) →
    (∀ outcome : BurstOutcome,
      (((w.chan ch).lock = .lost ∧ outcome = .noInput) ∨
        ((w.chan ch).lock = .locked ∧ w.reached opens = true ∧ outcome = .missed) ∨
        ((w.chan ch).lock = .locked ∧ w.reached opens = false ∧ (∀ k, (w.lane k).state ≠ .free) ∧ outcome = .noLane)) →
      t = { w with
        channels := w.channels.set ch { w.chan ch with
          queue := match rest with
            | [] => []
            | h :: hs => (if g.grant.chain then { h with link := false } else h) :: hs }
        output := w.output.placeRecord
          { channel := ch, cls := g.grant.cls, modulation := e.modulation, outcome := outcome, cause := none
            station := g.grant.station, start := g.grant.start, counter := w.timebase.counter
            flags := { RecordFlags.clear with holdover := w.timebase.sync == .holdover }
            gate := none, lane := none, laneSection := none, measurement := none, sums := none, recentre := none
            symbols := none, ranging := none } }) ∧
    ∀ k, (w.chan ch).lock = .locked → w.reached opens = false → (w.lane k).state = .free →
      (∀ j, j < k → (w.lane j).state ≠ .free) →
      t = State.checkout { w with
        channels := w.channels.set ch { w.chan ch with queue := rest }
        lanes := w.lanes.set k { Lane.idle with
          state := .armed, grant := g, channel := ch, cls := e, offset := c, halfWidth := e.w, windowOpen := opens
          searchEnd := ends, firstPos := c - e.w, preamble := w.patterns[e.preamble].take e.lp, lcorr := min e.lp 16
          holdoverMark := w.timebase.sync == .holdover, searchReached := w.reached ends
          endReached := w.reached g.endTick } } k

/-! ### Laws that hold between events -/

/-- The output queue keeps within its capacity, and the notices in it within theirs (R178, R179, R181). -/
def OutputQueue.Bounded (o : OutputQueue) : Prop :=
  o.fill ≤ Config.outputCapacity ∧ o.notices ≤ Config.noticeLimit

/-- A channel that is neither RUNNING nor STOPPING holds no grant and no lane; while UNSYNCED no channel is RUNNING or
STOPPING; no queue holds more than 48 grants (R11, R18, R36). -/
structure State.Quiet (s : State) : Prop where
  unsynced : s.timebase.sync = .unsynced → ∀ ch, (s.chan ch).state.active = false
  inactive : ∀ ch, (s.chan ch).state.active = false → s.queue ch = [] ∧ ∀ l, s.serves l ch = false
  depth : ∀ ch, (s.queue ch).length ≤ Config.queueDepth

/-- The items still to be taken of a PUT under way. -/
def Transfer.items : Transfer → List PutItem
  | .put _ left _ _ => left
  | .get _ _ _ _ _ => []

/-- The class tables and the Preamble Store hold values in their ranges, and every class entry that names a non-empty
pattern holds an Lp no greater than that pattern's length (R27, R30, R32). -/
structure State.TablesLegal (s : State) : Prop where
  classes : ∀ (ch : Fin 6) (i : Fin 6), (s.chan ch).classes[i].InRange
  patterns : ∀ i : Fin 8, s.patterns[i].length = 0 ∨ (8 ≤ s.patterns[i].length ∧ s.patterns[i].length ≤ 64)
  fitted : ∀ (ch : Fin 6) (i : Fin 6), s.patterns[(s.chan ch).classes[i].preamble] ≠ [] →
    (s.chan ch).classes[i].lp ≤ s.patterns[(s.chan ch).classes[i].preamble].length
  waiting : ∀ t, s.link.transfer = some t → ∀ i ∈ t.items, i.Fits

/-- A profile's numbers (R124, R140; table of section 7.1). -/
structure Profile.InRange (p : Profile) (ageLimit : Nat) : Prop where
  offset : -127 ≤ p.offset ∧ p.offset ≤ 127
  bias : -6 ≤ p.bias ∧ p.bias ≤ 6
  revertLimit : 1 ≤ p.revertLimit ∧ p.revertLimit ≤ 7
  failCount : p.failCount < p.revertLimit
  bound : p.state = .bound → p.age < ageLimit
  stale : p.state = .stale → p.age = ageLimit

/-- The settings that NODE SET writes are in their ranges (R13, R141). -/
structure State.SettingsLegal (s : State) : Prop where
  markTimeout : 20 ≤ s.timebase.markTimeout ∧ s.timebase.markTimeout ≤ 1000
  holdoverLimit : 1 ≤ s.timebase.holdoverLimit ∧ s.timebase.holdoverLimit ≤ 60
  stepTolerance : s.timebase.stepTolerance ≤ 255
  ageingPeriod : 1 ≤ s.sweep.ageingPeriod ∧ s.sweep.ageingPeriod ≤ 3600
  ageLimit : 1 ≤ s.sweep.ageLimit ∧ s.sweep.ageLimit ≤ 15

/-- The profiles, the directory and the lanes' roles agree with one another (R122, R127, R133, R134, R140, R154): the
directory, in ascending key order (R129), has no key twice and names exactly the BOUND and STALE profiles, each under its
key; a lane is a profile's holder or claim exactly when the profile's field names the lane; a claim waits in ARMED behind
a holder that is not CLOSING (R71, R150); a FREE profile has neither, a RETIRING one has one of them; a FREE lane has no
role. -/
structure State.StationsLegal (s : State) : Prop where
  settings : s.SettingsLegal
  profiles : ∀ p, (s.prof p).InRange s.sweep.ageLimit
  ordered : (s.directory.map (·.key)).Pairwise fun a b => Key.lt a b = true
  size : s.directory.length ≤ Config.directoryDepth
  named : ∀ e ∈ s.directory, (s.prof e.profile).key = some e.key
  entered : ∀ p k, (s.prof p).key = some k → ⟨k, p⟩ ∈ s.directory
  keyed : ∀ p, (s.prof p).key.isSome ↔ ((s.prof p).state = .bound ∨ (s.prof p).state = .stale)
  holder : ∀ l p, (s.lane l).role = .holder p ↔ (s.prof p).holder = some l
  claim : ∀ l p, (s.lane l).role = .claim p ↔ (s.prof p).claim = some l
  behind : ∀ p, (s.prof p).claim.isSome → (s.prof p).holder.isSome
  awaited : ∀ p h, (s.prof p).holder = some h → (s.prof p).claim.isSome → (s.lane h).state ≠ .closing
  armed : ∀ l p, (s.lane l).role = .claim p → (s.lane l).state = .armed
  free : ∀ p, (s.prof p).state = .free → (s.prof p).holder = none
  retiring : ∀ p, (s.prof p).state = .retiring → (s.prof p).holder.isSome
  idle : ∀ l, (s.lane l).state = .free → (s.lane l).role = .none

end Machine

end Sys2Proof
end

