-- ==== Sys2Proof/Certificates/Slice0/Obligations.lean ====
section
/-! DEFINITION. The statements about the PV-6412, from the manual's numbered rules. -/

open Sys2Proof Sys2Proof.Machine

/-! ### The machine as a block -/

/-- One step runs the command at the front of the queue on the state with the queue's rest; on an empty queue the part
idles (the model's choice, log entry 4). -/
def Obligations.StepRunsTheFrontCommand : Prop :=
  (∀ (c : Instr) (rest : List Instr) (s : State), s.pending = c :: rest →
    step s = exec c { s with pending := rest }) ∧
  ∀ s : State, s.pending = [] → step s = .next s

/-- A command acts on everything but the queue of waiting commands (the model's own field). -/
def Obligations.CommandsLeaveTheWaitingOnes : Prop :=
  ∀ (c : Instr) (s t : State), exec c s = .next t → t.pending = s.pending

/-- Every command that can be sent completes in every state; one that cannot be sent (a message longer than a frame
carries, an unknown kind that is known) stops with a fault. The two faults are the model's own (log entry 29). -/
def Obligations.SendableCommandsComplete : Prop :=
  ∀ (c : Instr) (s : State),
    (WellFormed c = true → ∃ t, exec c s = .next t) ∧ (WellFormed c = false → ∃ r, exec c s = .fault r)

/-! ### Reset and the tick counter -/

/-- R15: at power-on and while RESET_N is low the timebase holds its defaults, and the counter counts once it is
released. -/
def Obligations.ResetHoldsTheTimebaseDefaults : Prop :=
  State.reset.timebase =
    { counter := 0, sync := .unsynced, lastMark := 0, holdoverStart := 0, markTimeout := 200, holdoverLimit := 8,
      stepTolerance := 8 } ∧
  ∀ s : State, ∃ t, exec .resetNAssert s = .next t ∧ t.resetHeld = true ∧ t.timebase = State.reset.timebase ∧
    (∀ u : State, u.resetHeld = true → exec .tick u = .next u) ∧
    ∃ r, exec .resetNRelease t = .next r ∧ r = { t with resetHeld := false } ∧
      ∃ v, exec .tick r = .next v ∧ v.timebase = { t.timebase with counter := t.counter + 1 }

/-- RESET_N low returns every channel, class, pattern, lane, profile, queue and setting to its power-on value; the lock
lines are inputs and stay as they show. That the lock lines stay as they show is the model's choice (log entry 2). -/
def Obligations.ResetReturnsEveryPowerOnValue : Prop :=
  ∀ s : State, ∃ t, exec .resetNAssert s = .next t ∧ t.pending = s.pending ∧
    (∀ ch, (t.chan ch).state = .off ∧ (t.chan ch).rate = .msym1_6 ∧ (t.chan ch).spm = .sym8 ∧ (t.chan ch).epoch = 0 ∧
      (t.chan ch).disposition = .header ∧ (t.chan ch).lock = (s.chan ch).lock ∧ (t.chan ch).queue = [] ∧
      ∀ i : Fin 6, (t.chan ch).classes[i] =
        { valid := false, modulation := .qpsk, preamble := 0, lp := 8, w := 0, rho := 10, muTrain := 12, muTrack := 16,
          guardLen := 0, gate := 0, floor := 0 }) ∧
    (∀ i : Fin 8, t.patterns[i] = []) ∧
    (∀ l, t.lane l = Lane.idle ∧ (t.lane l).state = .free ∧ (t.lane l).role = .none ∧ (t.lane l).measurement = none) ∧
    (∀ p, t.prof p = Profile.free ∧ (t.prof p).state = .free ∧ (t.prof p).key = none ∧ (t.prof p).previous = none ∧
      (t.prof p).offset = 0 ∧ (t.prof p).bias = 0 ∧ (t.prof p).revertLimit = 3 ∧
      ∀ k : Fin 24, (t.prof p).current[k] = if k = 6 then ⟨16384, 0⟩ else ⟨0, 0⟩) ∧
    t.directory = [] ∧
    t.sweep = { pointer := 0, nextVisit := 4000000, visitReached := false, ageingPeriod := 60, ageLimit := 10 } ∧
    t.output = { items := [], partSent := 0, dropMark := false, noticeLoss := false, sentFrame := [] } ∧
    t.link = { inbound := [], holding := false, headend := none, own := none, pointer := ⟨.classes, 0, 0⟩, transfer := none }

/-- A change of the counter, to any value, notes every tick that it reaches: the arm ticks of queued grants, the
window-open, search end and end ticks of lanes that are not FREE, and the sweep's next-visit tick. A note once set stays.
TICK changes the counter by one. That the notes are kept in the queue, the lane and the sweep is read from R2 and R62 (log
entry 7). -/
def Obligations.TickAdvancesTheCounter : Prop :=
  ∀ (s t : State) (c : Tick) (reached : Tick → Bool),
    (∀ x, reached x = !decide (1 ≤ (x - c).toNat ∧ (x - c).toNat ≤ 2 ^ 31 - 1)) → s.setCounter c = t →
    t.timebase = { s.timebase with counter := c } ∧
    (∀ l, (s.lane l).state = .free → t.lane l = s.lane l) ∧
    (∀ l, (s.lane l).state ≠ .free → t.lane l =
      { s.lane l with windowReached := (s.lane l).windowReached || reached (s.lane l).windowOpen
                      searchReached := (s.lane l).searchReached || reached (s.lane l).searchEnd
                      endReached := (s.lane l).endReached || reached (s.lane l).grant.endTick }) ∧
    (∀ ch, t.chan ch = { s.chan ch with
      queue := (s.queue ch).map fun g => { g with armReached := g.armReached || reached g.armTick } }) ∧
    t.sweep = { s.sweep with visitReached := s.sweep.visitReached || reached s.sweep.nextVisit } ∧
    t = { s with timebase := t.timebase, channels := t.channels, lanes := t.lanes, sweep := t.sweep } ∧
    (s.resetHeld = false → exec .tick s = .next (s.setCounter (s.timebase.counter + 1)))

/-- While RESET_N is low only its release and the lock lines act. That commands have no effect while RESET_N is low is
read from R1, R15, R79 and R196 (log entry 27). -/
def Obligations.OnlyReleaseAndLocksActInReset : Prop :=
  ∀ (c : Instr) (s : State), s.resetHeld = true → WellFormed c = true →
    exec c s = match c with
      | .resetNRelease => .next { s with resetHeld := false }
      | .resetNAssert => exec .resetNAssert s
      | .inputLockLost ch => .next { s with channels := s.channels.set ch { s.chan ch with lock := .lost } }
      | .inputLockLocked ch => .next { s with channels := s.channels.set ch { s.chan ch with lock := .locked } }
      | _ => .next s

/-! ### Frames and messages -/

/-- A node-link frame with a correct check sequence, an individual destination, a carry count of 0 and room in the inbound
buffer is accepted: its messages join the buffer in order and its addresses are recorded. The byte order of the check
sequence that the frame ends in is presumed (log entry 10); that the buffer holds the messages separated, beside the
frame's payload length, is the model's choice (log entry 11). -/
def Obligations.GoodFramesJoinTheInboundBuffer : Prop :=
  ∀ (s : State) (dst src : BitVec 48) (ms : List Message),
    s.resetHeld = false → isGroupAddress dst = false → ms ≠ [] → (∀ m ∈ ms, m.kind ≠ 0#8) →
    (ms.flatMap writeMessage).length ≤ 1498 →
    s.link.held + max 46 ((ms.flatMap writeMessage).length + 2) ≤ 16384 →
    exec (.frameReceived (writeFrame dst src 0 (ms.flatMap writeMessage))) s =
      .next { s with link := { s.link with
        headend := some src, own := some dst,
        inbound := s.link.inbound ++ [⟨max 46 ((ms.flatMap writeMessage).length + 2), ms⟩] } }

/-- A frame with a wrong check sequence, a group destination, another link type, a carry count other than 0, or no room in
the inbound buffer is discarded whole. Which sequence is the wrong one rests on its byte order, which is presumed (log
entry 10). -/
def Obligations.BadFramesAreDiscarded : Prop :=
  ∀ s : State, s.resetHeld = false →
    (∀ body fcs : List Byte, fcs.length = 4 → fcs ≠ checkBytes body →
      exec (.frameReceived (body ++ fcs)) s = .next s) ∧
    (∀ (dst src : BitVec 48) (carry : Nat) (bytes : List Byte), carry < 65536 →
      (isGroupAddress dst = true ∨ carry ≠ 0 ∨ 16384 < s.link.held + max 46 (bytes.length + 2)) →
      exec (.frameReceived (writeFrame dst src carry bytes)) s = .next s) ∧
    ∀ (dst src : BitVec 48) (linkType : Nat) (payload : List Byte), linkType < 65536 → linkType ≠ 0xB6E1 →
      exec (.frameReceived
        ((beBytes 6 dst.toNat ++ beBytes 6 src.toNat ++ beBytes 2 linkType ++ payload) ++
          checkBytes (beBytes 6 dst.toNat ++ beBytes 6 src.toNat ++ beBytes 2 linkType ++ payload))) s = .next s

/-- When the link can send, one frame takes the next 1,498 bytes (or all there are) of the stream of unsent bytes,
behind a carry count of the bytes that remain of an item partly sent; an item leaves with its last byte. A request held
for room is then passed on: its command takes effect, or it goes on waiting. The frame ends in a check sequence whose byte
order is presumed (log entry 10); the frame last sent is a field of the model's own (log entry 24); that a held request is
passed on within this command is read from R179 (log entry 3). -/
def Obligations.FramesSendTheOutputAsAStream : Prop :=
  ∀ (s : State) (headend own : BitVec 48), s.resetHeld = false → s.link.headend = some headend →
    s.link.own = some own → s.output.items ≠ [] →
    ∃ o : OutputQueue, (s.link.holding = false → exec .frameSend s = .next { s with output := o }) ∧
      (∀ (c : Instr) (m : Message), s.link.holding = true → s.link.head = some m → c.message = some m →
        WellFormed c = true → exec .frameSend s = exec c { s with output := o }) ∧
      o.sentFrame = writeFrame headend own s.output.carry (s.output.unsent.take 1498) ∧
      o.unsent = s.output.unsent.drop 1498 ∧ o.items <:+ s.output.items ∧
      (∀ x xs, o.items = x :: xs → o.partSent < x.bytes.length) ∧ (o.items = [] → o.partSent = 0) ∧
      o.dropMark = s.output.dropMark ∧ o.noticeLoss = s.output.noticeLoss

/-- Every request body, and every item of a TABLE PUT, reads back from the bytes that its format gives, for every value
its fields can carry. -/
def Obligations.RequestBodiesReadBack : Prop :=
  (∀ t, readTimeMark (writeTimeMark t) = some t) ∧
  (∀ n : NodeSettings, n.markTimeout < 65536 → n.holdoverLimit < 65536 → n.stepTolerance < 65536 →
    n.ageingPeriod < 65536 → n.ageLimit < 256 → readNodeSet (writeNodeSet n) = some n) ∧
  (∀ c : ChannelSettings, c.channel < 256 → readChannelSet (writeChannelSet c) = some c) ∧
  (∀ ch < 256, readChannel (writeChannel ch) = some ch) ∧
  (∀ ch < 256, ∀ gs : List Grant, 1 ≤ gs.length → gs.length ≤ 32 →
    (∀ g ∈ gs, 1 ≤ g.station ∧ g.station ≤ 16383 ∧ 1 ≤ g.length ∧ g.length ≤ 255) →
    readSchedule (writeSchedule ch gs) = some (ch, gs)) ∧
  (∀ r : BindRequest, 1 ≤ r.station → r.station ≤ 16382 → r.channel < 256 → r.profile < 65536 → r.revertLimit < 256 →
    readProfileBind (writeProfileBind r) = some r) ∧
  (∀ station ch, 1 ≤ station → station ≤ 16382 → ch < 256 →
    readProfileUnbind (writeProfileUnbind station ch) = some (station, ch)) ∧
  (∀ p < 65536, readProfile (writeProfile p) = some p) ∧
  (∀ (t : TableId) (ch i : Nat), ch < 256 → i < 65536 → readTableSeek (writeTableSeek t ch i) = some (t, ch, i)) ∧
  (∀ n, 1 ≤ n → n ≤ 64 → readTableGet (writeTableGet n) = some n) ∧
  (∀ station (ch : Fin 6), station ≤ 16383 → readDirectoryGet (writeDirectoryGet station ch) = some (station, ch)) ∧
  ∀ (t : TableId) (items : List PutItem), 1 ≤ items.length → items.length ≤ 255 →
    (∀ i ∈ items, i.Fits ∧ i.OfTable t) → readTablePut t (writeTablePut items) = some items

/-- A message of an unknown kind is answered UNKNOWN_KIND and one of a known kind with a wrong form MALFORMED, and
nothing else changes. A request is taken in a state that is Ready for it (log entry 3). -/
def Obligations.BadMessagesAreAnswered : Prop :=
  (∀ (s : State) (kind tag : Byte) (body : List Byte), kind ≠ 0#8 → kind ∉ inboundKinds → body.length ≤ 1494 →
    s.Ready ⟨kind, tag, body⟩ 6 →
    exec (.unknownKind kind tag body) s = .next (s.taken.answered ⟨kind, tag, body⟩ .unknownKind [])) ∧
  ∀ (s : State) (c : Instr) (m : Message), c.message = some m → WellFormed c = true → m.kind ∈ inboundKinds →
    c.readable s.link.pointer.table = false → s.Ready m 6 → exec c s = .next (s.taken.answered m .malformed [])

/-- A message commanded behind another one, or while a PUT or GET is under way, is not taken: it waits in the inbound
buffer, which it joins in a frame of its own when it does not wait there already and the buffer has room. One at the head
that lacks room for its response is held. Nothing else changes. That a commanded message stands for the one message of a
frame, and that a held one is marked so, is the model's choice (log entry 3). -/
def Obligations.MessagesWaitForTheirTurnAndRoom : Prop :=
  ∀ (s : State) (c : Instr) (m : Message) (f : InboundFrame), c.message = some m → WellFormed c = true →
    s.resetHeld = false → f = ⟨max 46 (m.body.length + 6), [m]⟩ →
    ((s.link.transfer ≠ none ∨ (s.link.inbound ≠ [] ∧ s.link.head ≠ some m)) →
      exec c s = .next { s with link := { s.link with
        inbound :=
          if (∃ x ∈ s.link.inbound, m ∈ x.messages) ∨
              (s.link.inbound ≠ [] ∧ 16384 < (s.link.inbound.map (·.payloadLength)).sum + f.payloadLength) then
            s.link.inbound
          else s.link.inbound ++ [f] } }) ∧
    (s.link.transfer = none → (s.link.inbound = [] ∨ s.link.head = some m) →
      ((c.readable s.link.pointer.table = true ∧ s.output.room < c.responseRoom) ∨
        (c.readable s.link.pointer.table = false ∧ s.output.room < 6)) →
      exec c s = .next { s with link := { s.link with
        inbound := if s.link.inbound = [] then [f] else s.link.inbound
        holding := true } })

/-! ### Time marks and their loss -/

/-- A TIME MARK taken in UNSYNCED loads the counter with T, makes the state SYNCED and raises SYNC_REGAINED. The state
is Ready for the message (log entry 3); the load is a change of the counter, which notes the ticks that it reaches (log
entry 7). -/
def Obligations.FirstMarkLoadsTheCounter : Prop :=
  ∀ (s : State) (tag : Byte) (T : Tick), s.Ready ⟨kindTimeMark, tag, writeTimeMark T⟩ 0 →
    s.timebase.sync = .unsynced →
    exec (.timeMark tag (writeTimeMark T)) s = .next { s.taken.setCounter T with
      timebase := { s.timebase with counter := T, sync := .synced, lastMark := T }
      output := s.output.placeNotice T (.syncRegained T) }

/-- A TIME MARK within the step tolerance, in SYNCED or HOLDOVER, moves the counter one tick toward T and sets the
last-mark tick to the counter's new value; only HOLDOVER ends with a notice. The state is Ready for the message (log
entry 3); the move is a change of the counter, which notes the ticks that it reaches (log entry 7). -/
def Obligations.NearMarkMovesOneTick : Prop :=
  ∀ (s : State) (tag : Byte) (T c : Tick), s.Ready ⟨kindTimeMark, tag, writeTimeMark T⟩ 0 →
    s.timebase.sync ≠ .unsynced → (T - s.timebase.counter).toInt.natAbs ≤ s.timebase.stepTolerance →
    c = (if 0 < (T - s.timebase.counter).toInt then s.timebase.counter + 1
         else if (T - s.timebase.counter).toInt < 0 then s.timebase.counter - 1 else s.timebase.counter) →
    exec (.timeMark tag (writeTimeMark T)) s = .next { s.taken.setCounter c with
      timebase := { s.timebase with counter := c, sync := .synced, lastMark := c }
      output := if s.timebase.sync = .holdover then s.output.placeNotice c (.syncRegained c) else s.output }

/-- A TIME MARK beyond the step tolerance loads the counter and aborts every lane that is not FREE, in ascending lane
number: each yields its record with cause TIMEBASE_STEP, but under SILENT. Afterwards each lane is FREE, or ARMED with a
grant that a queue held, and each queue holds the last of its grants. After a forward step every due head has armed: a
head that remains is linked or its arm tick lies ahead of the loaded counter. The TIMEBASE_STEP notice follows the records
of the aborts and armings, and in HOLDOVER SYNC_REGAINED follows it. The state is Ready for the message (log entry 3); the
load notes the sweep's next-visit tick when it reaches it (log entry 7). -/
def Obligations.FarMarkStepsTheCounter : Prop :=
  ∀ (s : State) (tag : Byte) (T : Tick), s.Ready ⟨kindTimeMark, tag, writeTimeMark T⟩ 0 →
    s.timebase.sync ≠ .unsynced → s.timebase.stepTolerance < (T - s.timebase.counter).toInt.natAbs →
    ∃ (t : State) (hs : List Handed) (o : OutputQueue), exec (.timeMark tag (writeTimeMark T)) s = .next t ∧
      t.timebase = { s.timebase with counter := T, sync := .synced, lastMark := T } ∧
      (∀ l, (t.lane l).state = .free ∨ ((t.lane l).state = .armed ∧ ∃ g ∈ s.queue (t.lane l).channel,
        (t.lane l).grant = { g with link := (t.lane l).grant.link, armReached := (t.lane l).grant.armReached })) ∧
      (abortedOf hs).map (·.1) =
        (List.finRange 12).filter (fun l => (s.lane l).abortEmits (s.chan (s.lane l).channel).disposition) ∧
      (∀ a ∈ abortedOf hs,
        (s.lane a.1).AbortYields a.1 .timebaseStep (s.chan (s.lane a.1).channel).disposition T a.2) ∧
      (∀ r ∈ lanelessOf hs, r.lane = none ∧ (r.outcome = .noInput ∨ r.outcome = .missed ∨ r.outcome = .noLane)) ∧
      o = s.output.placeAll T hs ∧
      t.output = (if s.timebase.sync = .holdover then
          (o.placeNotice T (.timebaseStep (max (-(2 ^ 31 - 1)) (T - s.timebase.counter).toInt))).placeNotice T (.syncRegained T)
        else o.placeNotice T (.timebaseStep (max (-(2 ^ 31 - 1)) (T - s.timebase.counter).toInt))) ∧
      (∀ ch, t.chan ch = { s.chan ch with state := (t.chan ch).state, queue := t.queue ch } ∧
        (t.queue ch).length ≤ (s.queue ch).length ∧
        (t.queue ch).map (·.grant) <:+ (s.queue ch).map (·.grant) ∧
        ((t.chan ch).state = (s.chan ch).state ∨ ((s.chan ch).state = .stopping ∧ (t.chan ch).state = .ready))) ∧
      (∀ (ch : Fin 6) (g : QueuedGrant) (rest : List QueuedGrant), 0 < (T - s.timebase.counter).toInt →
        t.queue ch = g :: rest → t.linked ch g = true ∨ ahead g.armTick T = true) ∧
      t.patterns = s.patterns ∧ t.directory = s.directory ∧ t.sweep = (s.setCounter T).sweep ∧
      t.link = s.link.dropHead ∧ t.resetHeld = s.resetHeld

/-- When the mark timeout's deadline is reached in SYNCED the state becomes HOLDOVER, the holdover start is the
counter, every lane that is not FREE sets its holdover mark and SYNC_HOLDOVER is raised. Otherwise the timeout does not
act. That a timeout commanded before it is due leaves the state is the model's choice (log entry 5). -/
def Obligations.MarkTimeoutEntersHoldover : Prop :=
  ∀ s : State, s.resetHeld = false →
    (s.timebase.sync = .synced →
      s.reached (s.timebase.lastMark + BitVec.ofNat 32 (s.timebase.markTimeout * 25600)) = true →
      ∃ t, exec .markTimeoutExpiry s = .next t ∧
        t = { s with timebase := { s.timebase with sync := .holdover, holdoverStart := s.timebase.counter }
                     lanes := t.lanes
                     output := s.output.placeNotice s.timebase.counter (.syncHoldover s.timebase.counter) } ∧
        ∀ l, t.lane l = if (s.lane l).state = .free then s.lane l else { s.lane l with holdoverMark := true }) ∧
    ((s.timebase.sync ≠ .synced ∨
        s.reached (s.timebase.lastMark + BitVec.ofNat 32 (s.timebase.markTimeout * 25600)) = false) →
      exec .markTimeoutExpiry s = .next s)

/-- When the holdover limit's deadline is reached in HOLDOVER the state becomes UNSYNCED, SYNC_LOST is raised first, and
every RUNNING or STOPPING channel is halted: its queue is empty, its lanes are FREE, it is READY. Behind SYNC_LOST stand
the records of the aborts alone, each with cause SYNC_LOST, but under SILENT; a lane in CLOSING hands over the record it
has fixed. They come channel by channel and in ascending lane number within each, which is the model's choice between R10
and R77 (log entry 36). Other channels, and the lanes that serve none of the halted ones, keep their states. -/
def Obligations.HoldoverLimitHaltsActiveChannels : Prop :=
  ∀ s : State, s.resetHeld = false → s.timebase.sync = .holdover →
    s.reached (s.timebase.holdoverStart + BitVec.ofNat 32 (s.timebase.holdoverLimit * 25600000)) = true →
    ∃ (t : State) (rs : List (Fin 12 × BurstRecord)), exec .holdoverLimitExpiry s = .next t ∧
      t.timebase = { s.timebase with sync := .unsynced } ∧
      rs.map (·.1) = (List.finRange 6).flatMap (fun ch => (List.finRange 12).filter fun l =>
        ((s.chan ch).state == .running || (s.chan ch).state == .stopping) && s.serves l ch &&
          (s.lane l).abortEmits (s.chan ch).disposition) ∧
      (∀ a ∈ rs, (s.lane a.1).AbortYields a.1 .syncLost (s.chan (s.lane a.1).channel).disposition s.timebase.counter a.2 ∧
        ((s.lane a.1).state = .closing → ∃ f, (s.lane a.1).record = some f ∧ a.2 = { f with
          counter := s.timebase.counter
          flags := { f.flags with
            holdover := (s.lane a.1).holdoverMark, saturated := (s.lane a.1).saturated
            forwarded := (s.lane a.1).forwarded, overridden := (s.lane a.1).overridden } })) ∧
      t.output = (s.output.placeNotice s.timebase.counter (.syncLost s.timebase.holdoverStart)).placeAll
        s.timebase.counter (rs.map fun a => .aborted a.1 a.2) ∧
      (s.output.placeNotice s.timebase.counter (.syncLost s.timebase.holdoverStart)).items <+: t.output.items ∧
      (∀ ch, ((s.chan ch).state = .running ∨ (s.chan ch).state = .stopping) →
        t.chan ch = { s.chan ch with state := .ready, queue := [] } ∧
        ∀ l, s.serves l ch = true → (t.lane l).state = .free) ∧
      (∀ ch, ((s.chan ch).state = .off ∨ (s.chan ch).state = .ready) → t.chan ch = s.chan ch ∧
        ∀ l, s.serves l ch = true → (t.lane l).state = (s.lane l).state ∧ (t.lane l).grant = (s.lane l).grant ∧
          (t.lane l).channel = ch) ∧
      t.patterns = s.patterns ∧ t.directory = s.directory ∧ t.sweep = s.sweep ∧ t.link = s.link ∧
      t.resetHeld = s.resetHeld

/-! ### Node requests -/

/-- NODE SET stores its five settings clamped and answers CLAMPED when a value lay outside its range. After the response
a deadline that the new values leave reached expires, as the mark timeout or the holdover limit does. When the age limit
changes, each BOUND profile whose age is at or above the new limit then turns STALE, with a PROFILE_STALE notice in
ascending index order, and each STALE profile takes the new limit as its age. The next-visit tick is re-formed, whatever
the ageing period (log entry 16). A request is taken in a state that is Ready for it (log entry 3). -/
def Obligations.NodeSetStoresClampedSettings : Prop :=
  ∀ (s w : State) (tag : Byte) (n v : NodeSettings),
    s.Ready ⟨kindNodeSet, tag, writeNodeSet n⟩ 6 →
    n.markTimeout < 65536 → n.holdoverLimit < 65536 → n.stepTolerance < 65536 → n.ageingPeriod < 65536 →
    n.ageLimit < 256 →
    v = { markTimeout := max 20 (min 1000 n.markTimeout), holdoverLimit := max 1 (min 60 n.holdoverLimit),
          stepTolerance := min 255 n.stepTolerance, ageingPeriod := max 1 (min 3600 n.ageingPeriod),
          ageLimit := max 1 (min 15 n.ageLimit) } →
    w = { s.taken.answered ⟨kindNodeSet, tag, writeNodeSet n⟩ (if v = n then .ok else .clamped) [] with
          timebase := { s.timebase with markTimeout := v.markTimeout, holdoverLimit := v.holdoverLimit,
                                        stepTolerance := v.stepTolerance }
          sweep := { s.sweep with ageingPeriod := v.ageingPeriod, ageLimit := v.ageLimit } } →
    ∃ t u : State, exec (.nodeSet tag (writeNodeSet n)) s = .next t ∧
      (s.timebase.sync = .unsynced → u = w) ∧
      (s.timebase.sync = .synced → exec .markTimeoutExpiry w = .next u) ∧
      (s.timebase.sync = .holdover → exec .holdoverLimitExpiry w = .next u) ∧
      t = { u with
            sweep := { pointer := s.sweep.pointer
                       nextVisit := s.timebase.counter + BitVec.ofNat 32 (v.ageingPeriod * 25600000 / 384)
                       visitReached := false, ageingPeriod := v.ageingPeriod, ageLimit := v.ageLimit }
            profiles := t.profiles
            output := t.output } ∧
      (v.ageLimit = s.sweep.ageLimit → t.profiles = u.profiles ∧ t.output = u.output) ∧
      (v.ageLimit ≠ s.sweep.ageLimit →
        (∀ p, t.prof p =
          if (u.prof p).state = .bound ∧ v.ageLimit ≤ (u.prof p).age then
            { u.prof p with state := .stale, age := v.ageLimit }
          else if (u.prof p).state = .stale then { u.prof p with age := v.ageLimit } else u.prof p) ∧
        t.output = u.output.placeAll s.timebase.counter
          (((List.finRange 384).filter fun p => (u.prof p).state == .bound && decide (v.ageLimit ≤ (u.prof p).age)).map
            fun p => .notice (.profileStale p (u.prof p).key)))

/-- RESET NODE is answered first; then the part is UNSYNCED, every queue empty, every lane FREE without a record, every
channel OFF, every holding, claim and overridden flag cleared, and every RETIRING profile FREE. Everything else is
kept. A request is taken in a state that is Ready for it (log entry 3). -/
def Obligations.ResetNodeClearsTheReception : Prop :=
  ∀ (s : State) (tag : Byte), s.Ready ⟨kindResetNode, tag, []⟩ 6 →
    ∃ t, exec (.resetNode tag []) s = .next t ∧
      t = { s.taken.answered ⟨kindResetNode, tag, []⟩ .ok [] with
            timebase := { s.timebase with sync := .unsynced }
            channels := t.channels, lanes := t.lanes, profiles := t.profiles } ∧
      (∀ ch, t.chan ch = { s.chan ch with state := .off, queue := [] }) ∧
      (∀ l, (t.lane l).state = .free ∧ (t.lane l).role = .none) ∧
      ∀ p, t.prof p = if (s.prof p).state = .retiring then Profile.free
        else { s.prof p with holder := none, claim := none, overridden := false }

/-- STATUS GET is answered with the sync state, the counter, each channel's state, queue fill and lanes, the FREE
lanes, the profiles in each state, the directory fill and the output queue's fill, as they stand. A request is taken in
a state that is Ready for it (log entry 3). -/
def Obligations.StatusReportsTheState : Prop :=
  ∀ (s : State) (tag : Byte), s.Ready ⟨kindStatusGet, tag, []⟩ 44 →
    exec (.statusGet tag []) s = .next (s.taken.answered ⟨kindStatusGet, tag, []⟩ .ok
      (beBytes 1 s.timebase.sync.code ++ bytes32 s.timebase.counter ++
        (([0, 1, 2, 3, 4, 5] : List (Fin 6)).flatMap fun ch =>
          beBytes 1 (s.chan ch).state.code ++ beBytes 1 (s.queue ch).length ++
            beBytes 1 ((List.finRange 12).countP fun l => s.serves l ch)) ++
        beBytes 1 ((List.finRange 12).countP fun l => (s.lane l).state == .free) ++
        (([.free, .bound, .stale, .retiring] : List ProfileState).flatMap fun x =>
          beBytes 2 ((List.finRange 384).countP fun p => (s.prof p).state == x)) ++
        beBytes 2 s.directory.length ++ beBytes 4 (s.output.items.map fun x => x.bytes.length).sum))

/-! ### Channel requests -/

/-- A well-formed channel request that names a channel outside 0 .. 5 is refused with BAD_CHANNEL and changes nothing
else. A request is taken in a state that is Ready for it (log entry 3). -/
def Obligations.RequestsOutsideTheChannelsAreRefused : Prop :=
  ∀ (s : State) (tag : Byte) (ch : Nat), 6 ≤ ch → ch < 256 →
    (∀ c : ChannelSettings, c.channel = ch → s.Ready ⟨kindChannelSet, tag, writeChannelSet c⟩ 6 →
      exec (.channelSet tag (writeChannelSet c)) s =
        .next (s.taken.answered ⟨kindChannelSet, tag, writeChannelSet c⟩ .badChannel [])) ∧
    (s.Ready ⟨kindChannelStart, tag, writeChannel ch⟩ 6 → exec (.channelStart tag (writeChannel ch)) s =
      .next (s.taken.answered ⟨kindChannelStart, tag, writeChannel ch⟩ .badChannel [])) ∧
    (s.Ready ⟨kindChannelStop, tag, writeChannel ch⟩ 6 → exec (.channelStop tag (writeChannel ch)) s =
      .next (s.taken.answered ⟨kindChannelStop, tag, writeChannel ch⟩ .badChannel [])) ∧
    (s.Ready ⟨kindChannelHalt, tag, writeChannel ch⟩ 7 → exec (.channelHalt tag (writeChannel ch)) s =
      .next (s.taken.answered ⟨kindChannelHalt, tag, writeChannel ch⟩ .badChannel [0])) ∧
    ∀ g : Grant, 1 ≤ g.station → g.station ≤ 16383 → 1 ≤ g.length → g.length ≤ 255 →
      s.Ready ⟨kindSchedule, tag, writeSchedule ch [g]⟩ 8 → exec (.schedule tag (writeSchedule ch [g])) s =
        .next (s.taken.answered ⟨kindSchedule, tag, writeSchedule ch [g]⟩ .badChannel [0, 0])

/-- CHANNEL SET replaces a channel's four settings in OFF and READY, leaves it READY and keeps its classes, lock and
queue; in RUNNING and STOPPING it is refused. A request is taken in a state that is Ready for it (log entry 3). -/
def Obligations.ChannelSetReplacesTheSettings : Prop :=
  ∀ (s : State) (tag : Byte) (ch : Fin 6) (c : ChannelSettings), c.channel = ch.val →
    s.Ready ⟨kindChannelSet, tag, writeChannelSet c⟩ 6 →
    (((s.chan ch).state = .off ∨ (s.chan ch).state = .ready) →
      exec (.channelSet tag (writeChannelSet c)) s =
        .next { s.taken.answered ⟨kindChannelSet, tag, writeChannelSet c⟩ .ok [] with
          channels := s.channels.set ch { s.chan ch with
            state := .ready, rate := c.rate, spm := c.spm, epoch := c.epoch, disposition := c.disposition } }) ∧
    (((s.chan ch).state = .running ∨ (s.chan ch).state = .stopping) →
      exec (.channelSet tag (writeChannelSet c)) s =
        .next (s.taken.answered ⟨kindChannelSet, tag, writeChannelSet c⟩ .channelState []))

/-- CHANNEL START makes a READY channel RUNNING while the part is SYNCED or in HOLDOVER, is refused with NOT_SYNCED in
UNSYNCED, changes nothing in RUNNING, and is refused with CHANNEL_STATE in OFF and STOPPING. A request is taken in a
state that is Ready for it (log entry 3). -/
def Obligations.ChannelStartRunsAReadyChannel : Prop :=
  ∀ (s : State) (tag : Byte) (ch : Fin 6), s.Ready ⟨kindChannelStart, tag, writeChannel ch⟩ 6 →
    exec (.channelStart tag (writeChannel ch)) s = .next
      (match (s.chan ch).state, s.timebase.sync with
       | .ready, .unsynced => s.taken.answered ⟨kindChannelStart, tag, writeChannel ch⟩ .notSynced []
       | .ready, .synced | .ready, .holdover =>
         { s.taken.answered ⟨kindChannelStart, tag, writeChannel ch⟩ .ok [] with
           channels := s.channels.set ch { s.chan ch with state := .running } }
       | .running, _ => s.taken.answered ⟨kindChannelStart, tag, writeChannel ch⟩ .ok []
       | .off, _ | .stopping, _ => s.taken.answered ⟨kindChannelStart, tag, writeChannel ch⟩ .channelState [])

/-- CHANNEL STOP makes a RUNNING channel READY when its queue is empty and no lane serves it, and STOPPING otherwise;
in READY and STOPPING it changes nothing, in OFF it is refused. A request is taken in a state that is Ready for it (log
entry 3). -/
def Obligations.ChannelStopDrainsAChannel : Prop :=
  ∀ (s : State) (tag : Byte) (ch : Fin 6), s.Ready ⟨kindChannelStop, tag, writeChannel ch⟩ 6 →
    ((s.chan ch).state = .running → s.queue ch = [] → (∀ l, s.serves l ch = false) →
      exec (.channelStop tag (writeChannel ch)) s =
        .next { s.taken.answered ⟨kindChannelStop, tag, writeChannel ch⟩ .ok [] with
          channels := s.channels.set ch { s.chan ch with state := .ready } }) ∧
    ((s.chan ch).state = .running → (s.queue ch ≠ [] ∨ ∃ l, s.serves l ch = true) →
      exec (.channelStop tag (writeChannel ch)) s =
        .next { s.taken.answered ⟨kindChannelStop, tag, writeChannel ch⟩ .ok [] with
          channels := s.channels.set ch { s.chan ch with state := .stopping } }) ∧
    (((s.chan ch).state = .ready ∨ (s.chan ch).state = .stopping) →
      exec (.channelStop tag (writeChannel ch)) s =
        .next (s.taken.answered ⟨kindChannelStop, tag, writeChannel ch⟩ .ok [])) ∧
    ((s.chan ch).state = .off → exec (.channelStop tag (writeChannel ch)) s =
      .next (s.taken.answered ⟨kindChannelStop, tag, writeChannel ch⟩ .channelState []))

/-- CHANNEL HALT empties a RUNNING or STOPPING channel's queue without records, frees its lanes, makes it READY, and
answers with the number flushed. Before the response stand the records of the aborts alone, in ascending lane number, each
with cause CHANNEL_HALT, but under SILENT; a lane in CLOSING hands over the record it has fixed. Other channels and the
grants of their lanes stay. In READY it changes nothing, in OFF it is refused. A request is taken in a state that is Ready
for it (log entry 3). -/
def Obligations.ChannelHaltEmptiesAChannel : Prop :=
  ∀ (s : State) (tag : Byte) (ch : Fin 6), s.Ready ⟨kindChannelHalt, tag, writeChannel ch⟩ 7 →
    (((s.chan ch).state = .running ∨ (s.chan ch).state = .stopping) →
      ∃ (t : State) (rs : List (Fin 12 × BurstRecord)), exec (.channelHalt tag (writeChannel ch)) s = .next t ∧
        t.channels = s.channels.set ch { s.chan ch with state := .ready, queue := [] } ∧
        (∀ l, s.serves l ch = true → (t.lane l).state = .free) ∧
        (∀ l, s.serves l ch = false → (t.lane l).state = (s.lane l).state ∧ (t.lane l).grant = (s.lane l).grant ∧
          (t.lane l).channel = (s.lane l).channel) ∧
        rs.map (·.1) =
          (List.finRange 12).filter (fun l => s.serves l ch && (s.lane l).abortEmits (s.chan ch).disposition) ∧
        (∀ a ∈ rs, (s.lane a.1).AbortYields a.1 .channelHalt (s.chan ch).disposition s.timebase.counter a.2 ∧
          ((s.lane a.1).state = .closing → ∃ f, (s.lane a.1).record = some f ∧ a.2 = { f with
            counter := s.timebase.counter
            flags := { f.flags with
              holdover := (s.lane a.1).holdoverMark, saturated := (s.lane a.1).saturated
              forwarded := (s.lane a.1).forwarded, overridden := (s.lane a.1).overridden } })) ∧
        t.output = (({ s with output := s.output.placeAll s.timebase.counter (rs.map fun a => .aborted a.1 a.2) } : State).answered
          ⟨kindChannelHalt, tag, writeChannel ch⟩ .ok (beBytes 1 (s.queue ch).length)).output ∧
        t.timebase = s.timebase ∧ t.patterns = s.patterns ∧ t.directory = s.directory ∧ t.sweep = s.sweep ∧
        t.link = s.link.dropHead ∧ t.resetHeld = s.resetHeld) ∧
    ((s.chan ch).state = .ready → exec (.channelHalt tag (writeChannel ch)) s =
      .next (s.taken.answered ⟨kindChannelHalt, tag, writeChannel ch⟩ .ok [0])) ∧
    ((s.chan ch).state = .off → exec (.channelHalt tag (writeChannel ch)) s =
      .next (s.taken.answered ⟨kindChannelHalt, tag, writeChannel ch⟩ .channelState [0]))

/-! ### Intake -/

/-- A grant that passes every test of intake joins the tail of its RUNNING channel's queue with the ticks formed from
the channel's epoch, minislot and symbol length, its data symbol count and its link mark; the response counts it and
the free places. That a start tick exactly 2^31 beyond the predecessor's end does not pass the order test, as R42 words it
against R2, is the model's choice (log entry 38). A request is taken in a state that is Ready for it (log entry 3). -/
def Obligations.AnAcceptedGrantJoinsTheQueue : Prop :=
  ∀ (s : State) (tag : Byte) (ch : Fin 6) (g g' : Grant) (q : QueuedGrant),
    s.Ready ⟨kindSchedule, tag, writeSchedule ch [g]⟩ 8 → (s.chan ch).state = .running →
    1 ≤ g.station → g.station ≤ 16383 → 1 ≤ g.length → g.length ≤ 255 →
    (s.chan ch).classes[g.cls].valid = true → s.patterns[(s.chan ch).classes[g.cls].preamble] ≠ [] →
    (s.chan ch).classes[g.cls].lp + (s.chan ch).classes[g.cls].guardLen + 1 ≤ g.length * (s.chan ch).spm.spm →
    (∀ p r, s.predecessor ch = some (p, r) → p.grant.chain = true →
      p.grant.station = g.station ∧ g.start = p.grant.start + BitVec.ofNat 32 p.grant.length ∧
        (s.chan ch).classes[g.cls].modulation = (s.chan ch).classes[p.grant.cls].modulation) →
    (∀ p r, s.predecessor ch = some (p, r) → (q.startTick - p.endTick).toNat < 2 ^ 31) →
    s.reached q.armTick = false → (s.queue ch).length < 48 →
    g' = (if g.station = 16383 then { g with chain := false } else g) →
    q = { grant := g'
          startTick := (s.chan ch).epoch + g.start * BitVec.ofNat 32 ((s.chan ch).spm.spm * tps (s.chan ch).rate)
          armTick := q.startTick - BitVec.ofNat 32 (64 * tps (s.chan ch).rate)
          endTick := q.startTick + BitVec.ofNat 32 (g.length * ((s.chan ch).spm.spm * tps (s.chan ch).rate))
          dataCount := g.length * (s.chan ch).spm.spm - (s.chan ch).classes[g.cls].lp -
            (s.chan ch).classes[g.cls].guardLen
          link := match s.predecessor ch with
            | none => false
            | some (p, receiving) => p.grant.chain && receiving
          armReached := false } →
    exec (.schedule tag (writeSchedule ch [g])) s =
      .next { s.taken.answered ⟨kindSchedule, tag, writeSchedule ch [g]⟩ (if g' = g then .ok else .clamped)
          (beBytes 1 1 ++ beBytes 1 (48 - ((s.queue ch).length + 1))) with
        channels := s.channels.set ch { s.chan ch with queue := s.queue ch ++ [q] } }

/-- A SCHEDULE of one grant is refused by the first test it fails, in the order BAD_CLASS, BAD_LENGTH, GRANT_CHAIN,
GRANT_ORDER, GRANT_LATE, QUEUE_FULL; on a channel that is not RUNNING it is refused with CHANNEL_STATE unjudged. That
GRANT_CHAIN compares the 32-bit minislot numbers, as R41 words it, and not the ticks that R35 judges grants by, is the
model's choice (log entry 35). GRANT_ORDER refuses a start tick before the predecessor's end tick, or 2^31 or more beyond
it; that it does so at exactly 2^31, as R42 words it, where the end tick is not ahead under R2, is the model's choice (log
entry 38). A request is taken in a state that is Ready for it (log entry 3). -/
def Obligations.SchedulesAreRefusedByTheFirstCause : Prop :=
  ∀ (s : State) (tag : Byte) (ch : Fin 6) (g : Grant) (start arm : Tick) (status : Status),
    s.Ready ⟨kindSchedule, tag, writeSchedule ch [g]⟩ 8 →
    1 ≤ g.station → g.station ≤ 16383 → 1 ≤ g.length → g.length ≤ 255 →
    start = (s.chan ch).epoch + g.start * BitVec.ofNat 32 ((s.chan ch).spm.spm * tps (s.chan ch).rate) →
    arm = start - BitVec.ofNat 32 (64 * tps (s.chan ch).rate) →
    status =
      (if (s.chan ch).state ≠ .running then .channelState
       else if (s.chan ch).classes[g.cls].valid = false ∨ s.patterns[(s.chan ch).classes[g.cls].preamble] = [] then .badClass
       else if g.length * (s.chan ch).spm.spm < (s.chan ch).classes[g.cls].lp + (s.chan ch).classes[g.cls].guardLen + 1 then
         .badLength
       else if ((s.predecessor ch).any fun p => p.1.grant.chain &&
           !decide (p.1.grant.station = g.station ∧ g.start = p.1.grant.start + BitVec.ofNat 32 p.1.grant.length ∧
             (s.chan ch).classes[g.cls].modulation = (s.chan ch).classes[p.1.grant.cls].modulation)) then .grantChain
       else if ((s.predecessor ch).any fun p => ahead p.1.endTick start ||
           start - p.1.endTick == BitVec.ofNat 32 (2 ^ 31)) then .grantOrder
       else if s.reached arm = true then .grantLate
       else if 48 ≤ (s.queue ch).length then .queueFull
       else .ok) →
    status ≠ .ok →
    exec (.schedule tag (writeSchedule ch [g])) s =
      .next (s.taken.answered ⟨kindSchedule, tag, writeSchedule ch [g]⟩ status
        (beBytes 1 0 ++ beBytes 1 (48 - (s.queue ch).length)))

/-- The grants of a SCHEDULE are judged in list order: those before the first refusal pass every test, each against the
queue as the ones before it left it, and join the queue as they were judged; the others do not. The status is the first
refusal's cause, or CLAMPED or OK when all are accepted. A request is taken in a state that is Ready for it (log entry
3). -/
def Obligations.IntakeStopsAtTheFirstRefusal : Prop :=
  ∀ (s : State) (tag : Byte) (ch : Fin 6) (gs : List Grant), s.Ready ⟨kindSchedule, tag, writeSchedule ch gs⟩ 8 →
    (s.chan ch).state = .running → 1 ≤ gs.length → gs.length ≤ 32 →
    (∀ g ∈ gs, 1 ≤ g.station ∧ g.station ≤ 16383 ∧ 1 ≤ g.length ∧ g.length ≤ 255) →
    ∃ (qs : List QueuedGrant) (status : Status),
      exec (.schedule tag (writeSchedule ch gs)) s =
        .next { s.taken.answered ⟨kindSchedule, tag, writeSchedule ch gs⟩ status
            (beBytes 1 qs.length ++ beBytes 1 (48 - (s.queue ch ++ qs).length)) with
          channels := s.channels.set ch { s.chan ch with queue := s.queue ch ++ qs } } ∧
      qs.length ≤ gs.length ∧
      qs.map (·.grant) = (gs.take qs.length).map admitGrant ∧
      (∀ (i : Nat) (g : Grant) (q : QueuedGrant), gs[i]? = some g → qs[i]? = some q →
        (s.setQueue ch (s.queue ch ++ qs.take i)).judgeGrant ch g = .ok q) ∧
      (qs.length = gs.length → status = if gs.any (fun g => g.station == 16383 && g.chain) then .clamped else .ok) ∧
      ∀ g, gs[qs.length]? = some g →
        (s.setQueue ch (s.queue ch ++ qs)).judgeGrant ch g = .error status

/-! ### Profile requests and the directory -/

/-- PROFILE BIND binds a FREE profile to an absent key: BOUND, age and counts 0, offset and bias 0, the revert limit
clamped, the vector kept or set to the default one, and one directory entry more, in key order. The refusals come in
the order BAD_CHANNEL, BAD_INDEX, KEY_EXISTS, TABLE_FULL, IN_USE and change nothing. A request is taken in a state that
is Ready for it (log entry 3). -/
def Obligations.BindTakesAFreeProfile : Prop :=
  ∀ (s : State) (tag : Byte) (r : BindRequest) (m : Message), m = ⟨kindProfileBind, tag, writeProfileBind r⟩ →
    s.Ready m 6 → 1 ≤ r.station → r.station ≤ 16382 → r.channel < 256 → r.profile < 65536 → r.revertLimit < 256 →
    (6 ≤ r.channel → exec (.profileBind tag (writeProfileBind r)) s = .next (s.taken.answered m .badChannel [])) ∧
    (r.channel < 6 → 384 ≤ r.profile →
      exec (.profileBind tag (writeProfileBind r)) s = .next (s.taken.answered m .badIndex [])) ∧
    ∀ (ch : Fin 6) (p : Fin 384), r.channel = ch.val → r.profile = p.val →
      exec (.profileBind tag (writeProfileBind r)) s = .next
        (if ∃ e ∈ s.directory, e.key = ⟨r.station, ch⟩ then s.taken.answered m .keyExists []
         else if 384 ≤ s.directory.length then s.taken.answered m .tableFull []
         else if (s.prof p).state ≠ .free then s.taken.answered m .inUse []
         else { s.taken.answered m (if 1 ≤ r.revertLimit ∧ r.revertLimit ≤ 7 then .ok else .clamped) [] with
           profiles := s.profiles.set p { s.prof p with
             state := .bound, key := some ⟨r.station, ch⟩, age := 0, failCount := 0, offset := 0, bias := 0,
             previous := none, lastMer := none, overridden := false, revertLimit := max 1 (min 7 r.revertLimit),
             current := if r.keep then (s.prof p).current else defaultVector }
           directory := (s.directory.takeWhile fun e => !Key.lt ⟨r.station, ch⟩ e.key) ++ [⟨⟨r.station, ch⟩, p⟩] ++
             (s.directory.dropWhile fun e => !Key.lt ⟨r.station, ch⟩ e.key) })

/-- PROFILE UNBIND removes the key's entry; its profile becomes FREE with its reset values, or RETIRING without its key
while a lane holds or claims it. An absent key is refused with NOT_BOUND, a channel outside 0 .. 5 with BAD_CHANNEL. A
request is taken in a state that is Ready for it (log entry 3). -/
def Obligations.UnbindFreesOrRetiresTheProfile : Prop :=
  ∀ (s : State) (tag : Byte) (station c : Nat) (m : Message),
    m = ⟨kindProfileUnbind, tag, writeProfileUnbind station c⟩ → s.Ready m 6 → 1 ≤ station → station ≤ 16382 →
    (6 ≤ c → c < 256 →
      exec (.profileUnbind tag (writeProfileUnbind station c)) s = .next (s.taken.answered m .badChannel [])) ∧
    ∀ ch : Fin 6, c = ch.val →
      ((∀ e ∈ s.directory, e.key ≠ ⟨station, ch⟩) →
        exec (.profileUnbind tag (writeProfileUnbind station c)) s = .next (s.taken.answered m .notBound [])) ∧
      ∀ p, s.lookup ⟨station, ch⟩ = some p →
        exec (.profileUnbind tag (writeProfileUnbind station c)) s =
          .next { s.taken.answered m .ok [] with
            directory := s.directory.filter fun e => e.key != ⟨station, ch⟩
            profiles := s.profiles.set p
              (if (s.prof p).holder = none ∧ (s.prof p).claim = none then Profile.free
               else { s.prof p with state := .retiring, key := none }) }

/-- PROFILE REVERT sets the current vector back to the previous or the default one, and PROFILE CLEAR to the default
one with offset and bias 0; both drop the previous vector, set the fail count to 0, and mark a held profile overridden.
FREE and RETIRING profiles refuse with NOT_BOUND, other indices with BAD_INDEX. A request is taken in a state that is
Ready for it (log entry 3). -/
def Obligations.RevertAndClearResetTheVector : Prop :=
  ∀ (s : State) (tag : Byte) (i : Nat) (m m' : Message), i < 65536 → m = ⟨kindProfileRevert, tag, writeProfile i⟩ →
    m' = ⟨kindProfileClear, tag, writeProfile i⟩ →
    (384 ≤ i →
      (s.Ready m 6 → exec (.profileRevert tag (writeProfile i)) s = .next (s.taken.answered m .badIndex [])) ∧
      (s.Ready m' 6 → exec (.profileClear tag (writeProfile i)) s = .next (s.taken.answered m' .badIndex []))) ∧
    ∀ p : Fin 384, i = p.val →
      (((s.prof p).state = .free ∨ (s.prof p).state = .retiring) →
        (s.Ready m 6 → exec (.profileRevert tag (writeProfile i)) s = .next (s.taken.answered m .notBound [])) ∧
        (s.Ready m' 6 → exec (.profileClear tag (writeProfile i)) s = .next (s.taken.answered m' .notBound []))) ∧
      (((s.prof p).state = .bound ∨ (s.prof p).state = .stale) →
        (s.Ready m 6 → exec (.profileRevert tag (writeProfile i)) s =
          .next { s.taken.answered m .ok [] with
            profiles := s.profiles.set p { s.prof p with
              overridden := (s.prof p).overridden || (s.prof p).holder.isSome
              current := (s.prof p).previous.getD defaultVector, previous := none, failCount := 0 } }) ∧
        (s.Ready m' 6 → exec (.profileClear tag (writeProfile i)) s =
          .next { s.taken.answered m' .ok [] with
            profiles := s.profiles.set p { s.prof p with
              overridden := (s.prof p).overridden || (s.prof p).holder.isSome
              current := defaultVector, previous := none, offset := 0, bias := 0, failCount := 0 } }))

/-- DIRECTORY GET lists, of the entries at or after its starting key, the first 128, with their number and a mark that
more follow; each with its station code, channel, profile index and the profile's state. A request is taken in a state
that is Ready for it (log entry 3). -/
def Obligations.DirectoryGetListsEntriesInOrder : Prop :=
  ∀ (s : State) (tag : Byte) (station : Nat) (ch : Fin 6) (es : List DirEntry),
    s.Ready ⟨kindDirectoryGet, tag, writeDirectoryGet station ch⟩ 776 → station ≤ 16383 →
    es = (s.directory.filter fun e =>
      decide (station < e.key.station ∨ (station = e.key.station ∧ ch.val ≤ e.key.channel.val))) →
    exec (.directoryGet tag (writeDirectoryGet station ch)) s =
      .next (s.taken.answered ⟨kindDirectoryGet, tag, writeDirectoryGet station ch⟩ .ok
        (beBytes 1 (min 128 es.length) ++ [if 128 < es.length then 1#8 else 0#8] ++
          (es.take 128).flatMap fun e =>
            beBytes 2 e.key.station ++ beBytes 1 e.key.channel.val ++ beBytes 2 e.profile.val ++
              beBytes 1 (s.prof e.profile).state.code))

/-- A visit of the sweep raises the age of a BOUND profile that no lane holds; at the age limit the profile becomes
STALE with a PROFILE_STALE notice. The pointer advances from 383 to 0 and the next visit is one interval away; a visit
whose tick has not been noted as reached (log entry 7) does nothing, which is the model's choice (log entry 5). -/
def Obligations.SweepVisitAgesOneProfile : Prop :=
  ∀ (s : State) (p : Fin 384), s.resetHeld = false → s.sweep.pointer = p →
    (s.sweep.visitReached = false → exec .sweepVisit s = .next s) ∧
    (s.sweep.visitReached = true →
      ∃ t, exec .sweepVisit s = .next t ∧
        t = { s with profiles := t.profiles, output := t.output, sweep := t.sweep } ∧
        t.sweep = { s.sweep with
          pointer := p + 1
          nextVisit := s.timebase.counter + BitVec.ofNat 32 (s.sweep.ageingPeriod * 25600000 / 384)
          visitReached := false } ∧
        (∀ q, q ≠ p → t.prof q = s.prof q) ∧
        (¬((s.prof p).state = .bound ∧ (s.prof p).holder = none) → t.prof p = s.prof p ∧ t.output = s.output) ∧
        ((s.prof p).state = .bound → (s.prof p).holder = none → (s.prof p).age < 15 →
          (s.prof p).age + 1 ≠ s.sweep.ageLimit →
          t.prof p = { s.prof p with age := (s.prof p).age + 1 } ∧ t.output = s.output) ∧
        ((s.prof p).state = .bound → (s.prof p).holder = none → (s.prof p).age < 15 →
          (s.prof p).age + 1 = s.sweep.ageLimit →
          t.prof p = { s.prof p with age := (s.prof p).age + 1, state := .stale } ∧
          t.output = s.output.placeNotice s.timebase.counter (.profileStale p (s.prof p).key)))


/-! ### The table access pointer -/

/-- TABLE SEEK sets the pointer, refused with BAD_CHANNEL for the CLASS table outside 0 .. 5 and with BAD_INDEX above
the table's last index. TABLE PUT and TABLE GET at the end of the table are answered END_REACHED with nothing moved;
otherwise their items are to be taken one by one. That a SEEK which meets both refusals is answered BAD_CHANNEL (log entry
37), and that the pointer keeps and reports the channel byte of a table that does not use it (log entry 23), are the
model's choices. A request is taken in a state that is Ready for it (log entry 3). -/
def Obligations.PointerRequestsBegin : Prop :=
  ∀ (s : State) (tag : Byte) (a : AccessPointer), s.link.pointer = a →
    (∀ (t : TableId) (ch i : Nat) (m : Message), ch < 256 → i < 65536 →
      m = ⟨kindTableSeek, tag, writeTableSeek t ch i⟩ → s.Ready m 6 →
      exec (.tableSeek tag (writeTableSeek t ch i)) s = .next
        (if t = .classes ∧ 6 ≤ ch then s.taken.answered m .badChannel []
         else if t.items ≤ i then s.taken.answered m .badIndex []
         else { s.taken.answered m .ok [] with link := { s.link.dropHead with pointer := ⟨t, ch, i⟩ } })) ∧
    (∀ (items : List PutItem) (m : Message), 1 ≤ items.length → items.length ≤ 255 →
      (∀ i ∈ items, i.Fits ∧ i.OfTable a.table) → (writeTablePut items).length ≤ 1494 →
      m = ⟨kindTablePut, tag, writeTablePut items⟩ → s.Ready m 11 →
      exec (.tablePut tag (writeTablePut items)) s = .next
        (if a.table.items ≤ a.index then
          s.taken.answered m .endReached (beBytes 1 0 ++ beBytes 1 a.table.code ++ beBytes 1 a.channel ++ beBytes 2 a.index)
         else { s.taken with link := { s.link.dropHead with transfer := some (.put tag items 0 false) } })) ∧
    ∀ (n : Nat) (m : Message), 1 ≤ n → n ≤ 64 → m = ⟨kindTableGet, tag, writeTableGet n⟩ → s.Ready m 843 →
      exec (.tableGet tag (writeTableGet n)) s = .next
        (if a.table.items ≤ a.index then
          s.taken.answered m .endReached
            (beBytes 1 a.table.code ++ beBytes 1 a.channel ++ beBytes 2 a.index ++ beBytes 1 0)
         else { s.taken with link := { s.link.dropHead with transfer := some (.get tag a n 0 []) } })

/-- A class entry item is refused with CHANNEL_STATE while its channel is RUNNING or STOPPING, ending the PUT;
otherwise it is stored with every field brought into its range, Lp against the pattern it names, and the pointer
advances. An item that ends its PUT waits until the response has room, which is the model's choice (log entry 13). -/
def Obligations.ClassItemsAreStoredClamped : Prop :=
  ∀ (s : State) (tag : Byte) (ch i : Fin 6) (e e' : ClassEntry) (left : List PutItem) (moved : Nat) (clamped : Bool),
    s.resetHeld = false → s.link.pointer = ⟨.classes, ch.val, i.val⟩ →
    s.link.transfer = some (.put tag (.classEntry e :: left) moved clamped) →
    e' = { e with
      lp := if 8 ≤ s.patterns[e.preamble].length then min (max 8 (min 64 e.lp)) s.patterns[e.preamble].length
            else max 8 (min 64 e.lp)
      w := min 127 e.w, rho := max 1 (min 16 e.rho)
      muTrain := if e.muTrain = 0 then 0 else max 8 (min 24 e.muTrain)
      muTrack := if e.muTrack = 0 then 0 else max 8 (min 24 e.muTrack)
      guardLen := min 15 e.guardLen, gate := min 31 e.gate } →
    (((s.chan ch).state = .running ∨ (s.chan ch).state = .stopping) → 11 ≤ s.output.room →
      exec .putItem s = .next { s.answered ⟨kindTablePut, tag, []⟩ .channelState
          (beBytes 1 moved ++ beBytes 1 0 ++ beBytes 1 ch.val ++ beBytes 2 i.val) with
        link := { s.link with transfer := none } }) ∧
    (((s.chan ch).state = .off ∨ (s.chan ch).state = .ready) → left ≠ [] → i.val < 5 →
      exec .putItem s = .next { s with
        channels := s.channels.set ch { s.chan ch with classes := (s.chan ch).classes.set i e' }
        link := { s.link with
          pointer := ⟨.classes, ch.val, i.val + 1⟩
          transfer := some (.put tag left (moved + 1) (clamped || decide (e' ≠ e))) } }) ∧
    (((s.chan ch).state = .off ∨ (s.chan ch).state = .ready) → (left = [] ∨ i.val = 5) → 11 ≤ s.output.room →
      exec .putItem s = .next { s.answered ⟨kindTablePut, tag, []⟩
          (if left ≠ [] then .endReached else if clamped = true ∨ e' ≠ e then .clamped else .ok)
          (beBytes 1 (moved + 1) ++ beBytes 1 0 ++ beBytes 1 ch.val ++ beBytes 2 (i.val + 1)) with
        channels := s.channels.set ch { s.chan ch with classes := (s.chan ch).classes.set i e' }
        link := { s.link with pointer := ⟨.classes, ch.val, i.val + 1⟩, transfer := none } }) ∧
    (((s.chan ch).state = .running ∨ (s.chan ch).state = .stopping ∨ left = [] ∨ i.val = 5) → s.output.room < 11 →
      exec .putItem s = .next s)

/-- An item of a PUT to the PREAMBLE or a profile table. A pattern in use by a valid class of a RUNNING or STOPPING
channel is refused with IN_USE; otherwise it is stored and every longer Lp that names it lowered. A coefficient replaces
one tap, marking a held profile overridden when it is of the current vector, and making an absent previous vector present
first. Metadata is clamped, and the fail count brought below a lowered revert limit. The item that is taken advances the
pointer; the last one, or one at the table's end, sends the response: END_REACHED when items are left, else CLAMPED or OK.
An item that ends its PUT so, or by a refusal, waits while the response has no room: it changes nothing, which is the
model's choice (log entry 13). -/
def Obligations.PatternAndProfileItemsAreStored : Prop :=
  ∀ (s : State) (tag : Byte) (a : AccessPointer) (item : PutItem) (left : List PutItem) (moved : Nat) (clamped : Bool)
    (taken : State → Bool → State),
    s.resetHeld = false → s.link.pointer = a → s.link.transfer = some (.put tag (item :: left) moved clamped) →
    ((left = [] ∨ a.table.items ≤ a.index + 1 ∨ (∃ (i : Fin 8) (qs : List Quadrant), a.table = .preambles ∧
        a.index = i.val ∧ item = .pattern qs ∧ ∃ ch c : Fin 6,
          ((s.chan ch).state = .running ∨ (s.chan ch).state = .stopping) ∧ (s.chan ch).classes[c].valid = true ∧
          (s.chan ch).classes[c].preamble = i)) →
      s.output.room < 11 → exec .putItem s = .next s) ∧
    (((left ≠ [] ∧ a.index + 1 < a.table.items) ∨ 11 ≤ s.output.room) →
    (∀ (w : State) (c : Bool), taken w c =
      if left ≠ [] ∧ a.index + 1 < a.table.items then
        { w with link := { s.link with
            pointer := { a with index := a.index + 1 }, transfer := some (.put tag left (moved + 1) (clamped || c)) } }
      else
        { w.answered ⟨kindTablePut, tag, []⟩
            (if left ≠ [] then .endReached else if clamped = true ∨ c = true then .clamped else .ok)
            (beBytes 1 (moved + 1) ++ beBytes 1 a.table.code ++ beBytes 1 a.channel ++ beBytes 2 (a.index + 1)) with
          link := { s.link with pointer := { a with index := a.index + 1 }, transfer := none } }) →
    (∀ (i : Fin 8) (qs : List Quadrant), a.table = .preambles → a.index = i.val → item = .pattern qs →
      ((∃ ch c : Fin 6, ((s.chan ch).state = .running ∨ (s.chan ch).state = .stopping) ∧
          (s.chan ch).classes[c].valid = true ∧ (s.chan ch).classes[c].preamble = i) → 11 ≤ s.output.room →
        exec .putItem s = .next { s.answered ⟨kindTablePut, tag, []⟩ .inUse
            (beBytes 1 moved ++ beBytes 1 1 ++ beBytes 1 a.channel ++ beBytes 2 i.val) with
          link := { s.link with transfer := none } }) ∧
      ((∀ ch c : Fin 6, ((s.chan ch).state = .running ∨ (s.chan ch).state = .stopping) →
          (s.chan ch).classes[c].valid = true → (s.chan ch).classes[c].preamble ≠ i) →
        ∃ w : State, w = { s with patterns := s.patterns.set i qs, channels := w.channels } ∧
          exec .putItem s = .next (taken w (decide (∃ ch c : Fin 6, (w.chan ch).classes[c] ≠ (s.chan ch).classes[c]))) ∧
          ∀ ch c : Fin 6, (w.chan ch).classes[c] =
            (if (s.chan ch).classes[c].preamble = i ∧ 8 ≤ qs.length ∧ qs.length < (s.chan ch).classes[c].lp then
              { (s.chan ch).classes[c] with lp := qs.length } else (s.chan ch).classes[c]) ∧
            w.chan ch = { s.chan ch with classes := (w.chan ch).classes })) ∧
    (∀ (p : Fin 384) (tap : Fin 24) (c : Coef), (a.table = .profileCurrent ∨ a.table = .profilePrevious) →
      a.index = p.val * 24 + tap.val → item = .coefficient c →
      exec .putItem s = .next (taken { s with
        profiles := s.profiles.set p (if a.table = .profileCurrent then
            { s.prof p with overridden := (s.prof p).overridden || (s.prof p).holder.isSome,
                            current := (s.prof p).current.set tap c }
          else { s.prof p with previous := some (((s.prof p).previous.getD defaultVector).set tap c) }) } false)) ∧
    ∀ (p : Fin 384) (c b : Int) (rl : Nat), a.table = .profileMeta → a.index = p.val → item = .profileFields c b rl →
      exec .putItem s = .next (taken { s with
        profiles := s.profiles.set p { s.prof p with
          offset := max (-127) (min 127 c), bias := max (-6) (min 6 b), revertLimit := max 1 (min 7 rl)
          failCount := if max 1 (min 7 rl) ≤ (s.prof p).failCount then max 1 (min 7 rl) - 1 else (s.prof p).failCount } }
        (!decide (-127 ≤ c ∧ c ≤ 127 ∧ -6 ≤ b ∧ b ≤ 6 ∧ 1 ≤ rl ∧ rl ≤ 7))))

/-- An item of a GET reads the addressed entry as it stands, in the format of its table, and advances the pointer,
changing no table; the last one, or the one that reaches the table's end, sends the response. Such an item waits until the
response has room, which is the model's choice (log entry 13). -/
def Obligations.GetItemsReadTheEntry : Prop :=
  ∀ (s : State) (tag : Byte) (a start : AccessPointer) (left moved : Nat) (got bytes : List Byte),
    s.resetHeld = false → s.link.pointer = a → s.link.transfer = some (.get tag start left moved got) → 1 ≤ left →
    (∀ ch i : Fin 6, a = ⟨.classes, ch.val, i.val⟩ → bytes = classBytes (s.chan ch).classes[i]) →
    (∀ i : Fin 8, a.table = .preambles → a.index = i.val → bytes = patternBytes s.patterns[i]) →
    (∀ (p : Fin 384) (tap : Fin 24), a.table = .profileCurrent → a.index = p.val * 24 + tap.val →
      bytes = coefBytes (s.prof p).current[tap]) →
    (∀ (p : Fin 384) (tap : Fin 24), a.table = .profilePrevious → a.index = p.val * 24 + tap.val →
      bytes = match (s.prof p).previous with
        | some v => coefBytes v[tap] ++ [0#8]
        | none => [0#8, 0#8, 0#8, 0#8, 1#8]) →
    (∀ (p : Fin 384) (q : Profile), a.table = .profileMeta → a.index = p.val → s.prof p = q → bytes =
      beBytes 1 (match q.state with | .free => 0 | .bound => 1 | .stale => 2 | .retiring => 3) ++
        (match q.key with | none => [0#8, 0#8, 0xFF#8] | some k => beBytes 2 k.station ++ beBytes 1 k.channel.val) ++
        beSigned 1 q.offset ++ beSigned 1 q.bias ++ beBytes 1 q.age ++ beBytes 1 q.failCount ++ beBytes 1 q.revertLimit ++
        beBytes 1 (match q.holder with | none => 0xFF | some l => l.val) ++
        beBytes 1 (match q.claim with | none => 0xFF | some l => l.val) ++
        beBytes 1 ((if q.overridden then 1 else 0) + (if q.previous.isSome then 2 else 0) +
          (if q.lastMer.isSome then 4 else 0)) ++
        beBytes 1 (match q.lastMer with | none => 0 | some m => m)) →
    a.index < a.table.items → (a.table = .classes → a.channel < 6) →
    ((left = 1 ∨ a.index + 1 = a.table.items) → 11 + got.length + bytes.length ≤ s.output.room →
      exec .getItem s = .next
        { s.answered ⟨kindTableGet, tag, []⟩ (if left = 1 then .ok else .endReached)
            (beBytes 1 start.table.code ++ beBytes 1 start.channel ++ beBytes 2 start.index ++ beBytes 1 (moved + 1) ++
              (got ++ bytes)) with
          link := { s.link with pointer := { a with index := a.index + 1 }, transfer := none } }) ∧
    ((left = 1 ∨ a.index + 1 = a.table.items) → s.output.room < 11 + got.length + bytes.length →
      exec .getItem s = .next s) ∧
    (left ≠ 1 → a.index + 1 ≠ a.table.items →
      exec .getItem s = .next { s with link := { s.link with
        pointer := { a with index := a.index + 1 }
        transfer := some (.get tag start (left - 1) (moved + 1) (got ++ bytes)) } })

/-! ### Input lock -/

/-- The input lock follows its line. Its loss aborts the channel's lanes in SEARCHING, TRAINING and TRACKING, in ascending
lane number, each with its record but under SILENT; a lane in ARMED or CLOSING is not aborted. A linked head behind an
aborted lane leaves the queue with NO_INPUT. The holder's claimant becomes holder with the stored values. The channel's
settings and classes stay. The lock's return restores nothing. -/
def Obligations.InputLockLossAbortsReception : Prop :=
  ∀ (s : State) (ch : Fin 6), s.resetHeld = false →
    exec (.inputLockLocked ch) s = .next { s with channels := s.channels.set ch { s.chan ch with lock := .locked } } ∧
    ∃ (t : State) (hs : List Handed), exec (.inputLockLost ch) s = .next t ∧ (t.chan ch).lock = .lost ∧
      (∀ l, s.serves l ch = true →
        ((s.lane l).state = .searching ∨ (s.lane l).state = .training ∨ (s.lane l).state = .tracking) →
        (t.lane l).state = .free) ∧
      (∀ l, ((s.lane l).state = .armed ∨ (s.lane l).state = .closing ∨ s.serves l ch = false) →
        (t.lane l).state = (s.lane l).state ∧ (t.lane l).grant = (s.lane l).grant ∧
        (t.lane l).channel = (s.lane l).channel) ∧
      t.output = s.output.placeAll s.timebase.counter hs ∧
      (abortedOf hs).map (·.1) = (List.finRange 12).filter (fun l => s.serves l ch &&
        ((s.lane l).state == .searching || (s.lane l).state == .training || (s.lane l).state == .tracking) &&
        (s.chan ch).disposition != .silent) ∧
      (∀ a ∈ abortedOf hs,
        (s.lane a.1).AbortYields a.1 .inputLost (s.chan ch).disposition s.timebase.counter a.2) ∧
      (∀ e, Handed.notice e ∉ hs) ∧
      (lanelessOf hs).map (fun r => (r.channel, r.station, r.start, r.outcome, r.lane)) =
        ((s.queue ch).take (lanelessOf hs).length).map
          (fun g => (ch, g.grant.station, g.grant.start, BurstOutcome.noInput, none)) ∧
      (t.queue ch).map (·.grant) = ((s.queue ch).drop (lanelessOf hs).length).map (·.grant) ∧
      ((∀ l, s.headFollows l = true → (s.lane l).channel = ch → (s.lane l).state = .armed) → t.queue ch = s.queue ch) ∧
      (∀ l, s.serves l ch = true → s.headFollows l = true →
        ((s.lane l).state = .searching ∨ (s.lane l).state = .training ∨ (s.lane l).state = .tracking) →
        1 ≤ (lanelessOf hs).length) ∧
      t.chan ch = { s.chan ch with lock := .lost, state := (t.chan ch).state, queue := t.queue ch } ∧
      ((t.chan ch).state = (s.chan ch).state ∨ ((s.chan ch).state = .stopping ∧ (t.chan ch).state = .ready)) ∧
      (∀ k, k ≠ ch → t.chan k = s.chan k) ∧
      (∀ (l m : Fin 12) (p : Fin 384), s.StationsLegal → s.serves l ch = true →
        ((s.lane l).state = .searching ∨ (s.lane l).state = .training ∨ (s.lane l).state = .tracking) →
        (s.lane l).role = .holder p → (s.prof p).claim = some m → (s.prof p).state ≠ .retiring →
        t.prof p = { s.prof p with holder := some m, claim := none, overridden := false } ∧
        t.lane m = { s.lane m with
          role := .holder p
          vec := if (s.lane m).grant.grant.ranging = false ∧ (s.prof p).state = .bound then (s.prof p).current
                 else defaultVector
          bias := if (s.lane m).grant.grant.ranging = false ∧ (s.prof p).state = .bound then (s.prof p).bias else 0
          cold := !decide ((s.lane m).grant.grant.ranging = false ∧ (s.prof p).state = .bound) }) ∧
      t.timebase = s.timebase ∧ t.patterns = s.patterns ∧ t.directory = s.directory ∧ t.sweep = s.sweep ∧
      t.link = s.link ∧ t.resetHeld = s.resetHeld


/-! ### Arming and checkout -/

/-- A due head that finds the lock LOST yields NO_INPUT, one whose window-open tick is passed MISSED, one that finds no
FREE lane NO_LANE: its record is placed, it leaves the queue, a CHAIN grant breaks the link behind it, and no lane or
profile changes. A head is due once a change of the counter has reached its arm tick (log entry 7). -/
def Obligations.ArmingWithoutALaneYieldsItsRecord : Prop :=
  ∀ (s : State) (ch : Fin 6) (g : QueuedGrant) (rest : List QueuedGrant) (outcome : BurstOutcome),
    s.resetHeld = false → s.queue ch = g :: rest → s.linked ch g = false → g.armReached = true →
    (∀ h ∈ rest.head?, h.armReached = false) →
    (((s.chan ch).lock = .lost ∧ outcome = .noInput) ∨
      ((s.chan ch).lock = .locked ∧
        s.reached (windowOpenTick (s.chan ch) g (s.expectedOffset ch g.grant) (s.chan ch).classes[g.grant.cls].w) = true ∧
        outcome = .missed) ∨
      ((s.chan ch).lock = .locked ∧
        s.reached (windowOpenTick (s.chan ch) g (s.expectedOffset ch g.grant) (s.chan ch).classes[g.grant.cls].w) = false ∧
        (∀ l, (s.lane l).state ≠ .free) ∧ outcome = .noLane)) →
    ∃ t, exec (.arming ch) s = .next t ∧ t = { s with channels := t.channels, output := t.output } ∧
      (∀ k, k ≠ ch → t.chan k = s.chan k) ∧
      t.chan ch = { s.chan ch with
        state := if (s.chan ch).state = .stopping ∧ rest = [] ∧ (∀ l, s.serves l ch = false) then .ready
                 else (s.chan ch).state
        queue := match rest with
          | [] => []
          | h :: hs => (if g.grant.chain then { h with link := false } else h) :: hs } ∧
      t.output = s.output.placeRecord
        { channel := ch, cls := g.grant.cls, modulation := (s.chan ch).classes[g.grant.cls].modulation
          outcome := outcome, cause := none, station := g.grant.station, start := g.grant.start
          counter := s.timebase.counter
          flags := { RecordFlags.clear with holdover := s.timebase.sync == .holdover }
          gate := none, lane := none, laneSection := none, measurement := none, sums := none, recentre := none
          symbols := none, ranging := none }

/-- A due head that finds the lock LOCKED, its window ahead and a FREE lane takes the lowest-numbered one: the lane is
ARMED with the grant, its class values, its expected offset and ticks, absent measurements, empty list and zero sums, and
its checkout, State.checkout, follows at once. What an allocation does not set stands as in an idle lane (log entry 21).
Every other lane keeps its state and grant. A head is due once a change of the counter has reached its arm tick (log
entry 7). -/
def Obligations.ArmingTakesTheLowestFreeLane : Prop :=
  ∀ (s : State) (ch : Fin 6) (g : QueuedGrant) (rest : List QueuedGrant) (l : Fin 12) (c : Int) (e : ClassEntry)
    (opens ends : Tick),
    s.resetHeld = false → s.queue ch = g :: rest → s.linked ch g = false → g.armReached = true →
    (∀ h ∈ rest.head?, h.armReached = false) → (s.chan ch).lock = .locked →
    e = (s.chan ch).classes[g.grant.cls] → c = s.expectedOffset ch g.grant →
    opens = g.startTick + BitVec.ofInt 32 ((c - e.w) * (tps (s.chan ch).rate / 4 : Nat)) →
    ends = g.startTick + BitVec.ofInt 32
      ((c + e.w) * (tps (s.chan ch).rate / 4 : Nat) + (min e.lp 16 * tps (s.chan ch).rate : Nat)) →
    s.reached opens = false → (s.lane l).state = .free → (∀ k, k < l → (s.lane k).state ≠ .free) →
    ∃ t u : State, exec (.arming ch) s = .next t ∧ t = u.checkout l ∧
      u = { s with
        channels := s.channels.set ch { s.chan ch with queue := rest }
        lanes := s.lanes.set l { Lane.idle with
          state := .armed, grant := g, channel := ch, cls := e, offset := c, halfWidth := e.w, windowOpen := opens
          searchEnd := ends, firstPos := c - e.w, preamble := s.patterns[e.preamble].take e.lp, lcorr := min e.lp 16
          holdoverMark := s.timebase.sync == .holdover, windowReached := false, searchReached := s.reached ends
          endReached := s.reached g.endTick, measurement := none, symbols := [], member := ⟨0, 0, 0⟩
          chain := ⟨0, 0, 0⟩, lowCount := 0, saturated := false, forwarded := false, overridden := false } } ∧
      (t.lane l).state = .armed ∧ (t.lane l).grant = g ∧ (t.lane l).channel = ch ∧
      (∀ k, k ≠ l → (t.lane k).state = (s.lane k).state ∧ (t.lane k).grant = (s.lane k).grant ∧
        (t.lane k).channel = (s.lane k).channel) ∧
      t.channels = u.channels ∧ t.timebase = s.timebase ∧ t.patterns = s.patterns ∧ t.directory = s.directory ∧
      t.sweep = s.sweep ∧ t.link = s.link ∧ t.resetHeld = s.resetHeld

/-- The checkout that an allocation begins. An open grant, or one whose key is absent, makes a cold guest; a NO_WRITEBACK
grant a guest that copies the stored values, or a cold guest when it is RANGING or the profile STALE. Every other grant
becomes holder of an unheld profile with the preload, the pending claim of one whose holder still receives, or a guest when
a claim already stands. A holder in CLOSING is judged at once, as a forward, and the lane becomes holder with the preload
of the profile as State.judge left it. -/
def Obligations.CheckoutFixesTheRole : Prop :=
  ∀ (s : State) (l : Fin 12) (x : Lane) (g : Grant), s.lane l = x → x.grant.grant = g →
    (g.station = 16383 → s.checkout l = { s with lanes := s.lanes.set l { x with
      role := .coldGuest none, vec := defaultVector, bias := 0, cold := true, guest := true } }) ∧
    (g.station ≠ 16383 → s.lookup ⟨g.station, x.channel⟩ = none →
      s.checkout l = { s with lanes := s.lanes.set l { x with
        role := .coldGuest none, vec := defaultVector, bias := 0, cold := true, guest := true, unbound := true } }) ∧
    ∀ p, g.station ≠ 16383 → s.lookup ⟨g.station, x.channel⟩ = some p →
      (g.noWriteback = true → (g.ranging = true ∨ (s.prof p).state = .stale) →
        s.checkout l = { s with lanes := s.lanes.set l { x with
          role := .coldGuest (some p), vec := defaultVector, bias := 0, cold := true, guest := true } }) ∧
      (g.noWriteback = true → g.ranging = false → (s.prof p).state = .bound →
        s.checkout l = { s with lanes := s.lanes.set l { x with
          role := .guest p, vec := (s.prof p).current, bias := (s.prof p).bias, cold := false, guest := true } }) ∧
      (g.noWriteback = false → (s.prof p).holder = none →
        s.checkout l = { s with
          lanes := s.lanes.set l { x with
            role := .holder p
            vec := if g.ranging = false ∧ (s.prof p).state = .bound then (s.prof p).current else defaultVector
            bias := if g.ranging = false ∧ (s.prof p).state = .bound then (s.prof p).bias else 0
            cold := !decide (g.ranging = false ∧ (s.prof p).state = .bound) }
          profiles := s.profiles.set p { s.prof p with holder := some l } }) ∧
      ∀ h, g.noWriteback = false → (s.prof p).holder = some h →
        ((s.lane h).state ≠ .closing → (s.prof p).claim = none → s.checkout l = { s with
          lanes := s.lanes.set l { x with role := .claim p, vec := defaultVector, bias := 0 }
          profiles := s.profiles.set p { s.prof p with claim := some l } }) ∧
        ((s.lane h).state ≠ .closing → (s.prof p).claim ≠ none → s.checkout l = { s with
          lanes := s.lanes.set l { x with
            role := .guest p
            vec := if g.ranging = false ∧ (s.prof p).state = .bound then (s.prof p).current else defaultVector
            bias := if g.ranging = false ∧ (s.prof p).state = .bound then (s.prof p).bias else 0
            cold := !decide (g.ranging = false ∧ (s.prof p).state = .bound)
            guest := true } }) ∧
        ∀ u : State, (s.lane h).state = .closing → h ≠ l → (s.prof p).claim = none → s.judge h p true = u →
          s.checkout l = { u with
            lanes := u.lanes.set l { x with
              role := .holder p
              vec := if g.ranging = false ∧ (u.prof p).state = .bound then (u.prof p).current else defaultVector
              bias := if g.ranging = false ∧ (u.prof p).state = .bound then (u.prof p).bias else 0
              cold := !decide (g.ranging = false ∧ (u.prof p).state = .bound) }
            profiles := u.profiles.set p { u.prof p with holder := some l } }

/-! ### Reception -/

/-- When its window-open tick is reached with the lock LOCKED, an ARMED lane enters SEARCHING with an empty buffer; a
claim still standing is dropped and the lane becomes a guest with the preload that the profile gives, or on a RETIRING
profile a cold guest, which goes on referring to it (log entry 20). With the lock LOST the lane is aborted: its record is
placed but under SILENT, and a head linked to its grant leaves the queue with NO_INPUT. A window whose tick has not been
noted as reached (log entry 7) does nothing, which is the model's choice (log entry 5). -/
def Obligations.WindowOpeningStartsTheSearch : Prop :=
  ∀ (s : State) (l : Fin 12) (x : Lane), s.resetHeld = false → s.lane l = x →
    ((x.state ≠ .armed ∨ x.windowReached = false) → exec (.windowOpening l) s = .next s) ∧
    (x.state = .armed → x.windowReached = true → (s.chan x.channel).lock = .locked → (∀ p, x.role ≠ .claim p) →
      exec (.windowOpening l) s = .next { s with
        lanes := s.lanes.set l { x with state := .searching, buffer := [], preload := x.vec } }) ∧
    (∀ (p : Fin 384) (q : Profile) (warm : Bool), x.state = .armed → x.windowReached = true →
      (s.chan x.channel).lock = .locked → x.role = .claim p → s.prof p = q →
      warm = (!x.grant.grant.ranging && q.state == .bound) → q.state ≠ .retiring →
      exec (.windowOpening l) s = .next { s with
        lanes := s.lanes.set l { x with
          state := .searching, buffer := [], role := .guest p, guest := true, cold := !warm
          vec := if warm then q.current else defaultVector
          bias := if warm then q.bias else 0
          preload := if warm then q.current else defaultVector }
        profiles := s.profiles.set p { q with claim := none } }) ∧
    (∀ p, x.state = .armed → x.windowReached = true → (s.chan x.channel).lock = .locked → x.role = .claim p →
      (s.prof p).state = .retiring → (s.prof p).holder ≠ none →
      exec (.windowOpening l) s = .next { s with
        lanes := s.lanes.set l { x with
          state := .searching, buffer := [], role := .coldGuest (some p), guest := true, cold := true
          vec := defaultVector, bias := 0, preload := defaultVector }
        profiles := s.profiles.set p { s.prof p with claim := none } }) ∧
    (x.state = .armed → x.windowReached = true → (s.chan x.channel).lock = .lost →
      (∀ h ∈ (s.queue x.channel).tail.head?, h.armReached = false) →
      ∃ (t : State) (r : BurstRecord) (o : OutputQueue), exec (.windowOpening l) s = .next t ∧
        (t.lane l).state = .free ∧
        x.AbortYields l .inputLost (s.chan x.channel).disposition s.timebase.counter r ∧
        o = (if (s.chan x.channel).disposition = .silent then s.output else s.output.placeRecord r) ∧
        (s.headFollows l = false → t.output = o ∧ t.queue x.channel = s.queue x.channel) ∧
        ∀ (g : QueuedGrant) (rest : List QueuedGrant), s.headFollows l = true → s.queue x.channel = g :: rest →
          t.output = o.placeRecord
            { channel := x.channel, cls := g.grant.cls
              modulation := (s.chan x.channel).classes[g.grant.cls].modulation
              outcome := .noInput, cause := none, station := g.grant.station, start := g.grant.start
              counter := s.timebase.counter
              flags := { RecordFlags.clear with holdover := s.timebase.sync == .holdover }
              gate := none, lane := none, laneSection := none, measurement := none, sums := none, recentre := none
              symbols := none, ranging := none } ∧
          t.queue x.channel = match rest with
            | [] => []
            | h :: hs => (if g.grant.chain then { h with link := false } else h) :: hs)

/-- R86, R87: the peak is the candidate with the largest squared correlation, the earliest among equals, and c − W when
every correlation is 0; detection succeeds exactly when that square is above 0 and sixteen times it reaches
ρ × Ep × Ex(o*). The correlation C(o) sums the conjugates of the reference points times the samples at o + 4i, and Ex(o)
the squared magnitudes of those samples, exactly; a sample that was not buffered reads as 0. -/
def Obligations.SearchTakesTheLargestCorrelation : Prop :=
  ∀ (x : Lane) (p : Nat → Cx) (v : Int → Nat → Cx),
    (∀ i, p i = match (x.preamble.getD i 0).toNat with
      | 0 => ⟨1024, 1024⟩ | 1 => ⟨-1024, 1024⟩ | 2 => ⟨-1024, -1024⟩ | _ => ⟨1024, -1024⟩) →
    (∀ o i, v o i = if o + 4 * (i : Int) < x.firstPos then ⟨0, 0⟩
      else match x.buffer[(o + 4 * (i : Int) - x.firstPos).toNat]? with
        | some z => ⟨z.re.toInt, z.im.toInt⟩
        | none => ⟨0, 0⟩) →
    (∀ o, x.correlation o =
      ⟨((List.range x.lcorr).map fun i => (p i).re * (v o i).re + (p i).im * (v o i).im).sum,
       ((List.range x.lcorr).map fun i => (p i).re * (v o i).im - (p i).im * (v o i).re).sum⟩) ∧
    (∀ o, (x.candidateEnergy o : Int) =
      ((List.range x.lcorr).map fun i => (v o i).re * (v o i).re + (v o i).im * (v o i).im).sum) ∧
    x.candidates = (List.range (2 * x.halfWidth + 1)).map (fun i : Nat => x.offset - (x.halfWidth : Int) + (i : Int)) ∧
    x.peak ∈ x.candidates ∧
    (∀ o ∈ x.candidates, (x.correlation o).sq ≤ (x.correlation x.peak).sq) ∧
    (∀ o ∈ x.candidates, (x.correlation o).sq = (x.correlation x.peak).sq → x.peak ≤ o) ∧
    ((∀ o ∈ x.candidates, x.correlation o = ⟨0, 0⟩) → x.peak = x.offset - (x.halfWidth : Int)) ∧
    (x.detects = true ↔ 0 < (x.correlation x.peak).sq ∧
      x.cls.rho * (x.lcorr * 2097152) * x.candidateEnergy x.peak ≤ 16 * (x.correlation x.peak).sq)

/-- At the search end a detected burst gets its measured offset and preamble energy and enters TRAINING, and the lane acts
on every buffered position in arrival order, by State.positionArrival, as it acts on a sample's arrival; it is then in
TRAINING or, its catch-up done, in a later state. An undetected one ends as NO_PREAMBLE: CLOSING with an empty list and no
measurements, and a holder whose profile has a claim waiting is judged at once, by State.judge; after that a linked head
falls back to arming at this event. The search end tick has been noted as reached (log entry 7). -/
def Obligations.SearchEndDecidesDetection : Prop :=
  (∀ (s : State) (l : Fin 12) (x : Lane), s.resetHeld = false → s.lane l = x → x.state = .searching →
    x.searchReached = true →
    (x.detects = true → ∃ t, exec (.searchEnd l) s = .next t ∧
      t = ((List.range x.buffer.length).map fun i : Nat => x.firstPos + (i : Int)).foldl
        (fun v pos => v.positionArrival l pos)
        { s with lanes := s.lanes.set l { x with
            state := .training, nextPos := 0
            measurement := some ⟨x.peak, x.candidateEnergy x.peak / x.lcorr⟩ } } ∧
      (t.lane l).measurement = some ⟨x.peak, x.candidateEnergy x.peak / x.lcorr⟩ ∧
      ((t.lane l).state = .training ∨ (t.lane l).state = .tracking ∨ (t.lane l).state = .closing)) ∧
    (x.detects = false →
      ∃ (u w : State) (r : BurstRecord), u = { s with lanes := s.lanes.set l { x with
          state := .closing, closeCount := 0, record := some r, lowCount := 0, lowStart := 0 } } ∧
        ((∀ p, x.role = .holder p → (s.prof p).claim = none) → w = u) ∧
        (∀ p, x.role = .holder p → (s.prof p).claim ≠ none → w = u.judge l p true) ∧
        (s.headFollows l = false → exec (.searchEnd l) s = .next w) ∧
        (∀ (g : QueuedGrant) (rest : List QueuedGrant), s.headFollows l = true → s.queue x.channel = g :: rest →
          (∀ h ∈ rest.head?, h.armReached = false) →
          ∃ t, exec (.searchEnd l) s = .next t ∧ w.FallsBack t x.channel g rest) ∧
        r.outcome = .noPreamble ∧ r.symbols = some [] ∧ r.sums = none ∧ r.measurement = x.measurement ∧
        r.gate = some .nothing ∧ r.lane = some l ∧ r.station = x.grant.grant.station)) ∧
  ∀ (s : State) (ch : Fin 6) (re im : BitVec 12) (l : Fin 12) (x : Lane), s.resetHeld = false → s.lane l = x →
    (∀ k, s.serves k ch = decide (k = l)) → (x.state = .training ∨ x.state = .tracking) →
    exec (.sampleArrival ch re im) s = .next (State.positionArrival
      { s with lanes := s.lanes.set l { x with buffer := x.buffer ++ [⟨re, im⟩] } } l
      (x.firstPos + (x.buffer.length : Int)))

/-- A sample reaches the lanes of its channel alone: a SEARCHING lane buffers it, and so does one in TRAINING or TRACKING
whose next position and energy block it does not complete; a CLOSING lane counts it up to 128, where the count stays until
the close completes at a command of its own (log entry 8); FREE and ARMED lanes take none. The energy watch,
State.blockArrival, acts when the eighth main input of a block of the data range arrives in TRACKING under an energy floor:
an energy below the floor counts as low, another starts the count anew, and at the second low one the burst is SHORTENED.
The symbols from the first low block on leave the list and the sums, but for a sum held at its limit, and the lane enters
CLOSING, where a holder whose profile has a claim waiting is judged at once; after that a linked head falls back to arming
at this event. -/
def Obligations.SamplesAreBufferedAndCounted : Prop :=
  (∀ (s : State) (ch : Fin 6) (re im : BitVec 12), s.resetHeld = false →
    (∀ (l : Fin 12) (x : Lane) (pos : Int) (start : Nat), s.lane l = x → s.serves l ch = true →
      (x.state = .training ∨ x.state = .tracking) → pos = x.firstPos + (x.buffer.length : Int) →
      start = (if x.continued then x.base else x.base + x.cls.lp) →
      pos < x.offsetFound + 4 * ((x.nextPos : Int) + 6 + x.bias) ∧
        (x.state = .training ∨ x.cls.floor = 0 ∨ ∀ j : Nat, x.offsetFound + 4 * ((j : Int) + x.bias) = pos →
          start ≤ j → j + x.cls.guardLen < x.base + x.grant.grant.length * (s.chan ch).spm.spm → (j - start) % 8 ≠ 7)) →
    ∃ t, exec (.sampleArrival ch re im) s = .next t ∧ t = { s with lanes := t.lanes } ∧
      ∀ l, t.lane l =
        if s.serves l ch = true ∧
            ((s.lane l).state = .searching ∨ (s.lane l).state = .training ∨ (s.lane l).state = .tracking) then
          { s.lane l with buffer := (s.lane l).buffer ++ [⟨re, im⟩] }
        else if s.serves l ch = true ∧ (s.lane l).state = .closing then
          { s.lane l with closeCount := min 128 ((s.lane l).closeCount + 1) }
        else s.lane l) ∧
  ∀ (s : State) (l : Fin 12) (x : Lane) (pos : Int) (start stop : Nat) (input : Nat → Int), s.lane l = x →
    start = (if x.continued then x.base else x.base + x.cls.lp) →
    stop = x.base + x.grant.grant.length * (s.chan x.channel).spm.spm →
    (∀ j, input j = x.offsetFound + 4 * ((j : Int) + x.bias)) →
    ((x.state ≠ .tracking ∨ x.cls.floor = 0 ∨
        ∀ j : Nat, input j = pos → start ≤ j → j + x.cls.guardLen < stop → (j - start) % 8 ≠ 7) →
      s.blockArrival l pos = s) ∧
    ∀ (j energy : Nat) (kept gone : List Symbol), x.state = .tracking → input (j + 7) = pos → start ≤ j →
      (j - start) % 8 = 0 → j + 7 + x.cls.guardLen < stop →
      energy = ((List.range 8).map fun i => (x.sampleAt (input (j + i))).sq).sum →
      (0 < x.cls.floor → x.cls.floor ≤ energy →
        s.blockArrival l pos = { s with lanes := s.lanes.set l { x with lowCount := 0 } }) ∧
      (energy < x.cls.floor → x.lowCount = 0 →
        s.blockArrival l pos = { s with lanes := s.lanes.set l { x with lowCount := 1, lowStart := j } }) ∧
      (energy < x.cls.floor → 1 ≤ x.lowCount →
        kept = x.symbols.filter (fun y => decide (y.position < x.lowStart)) →
        gone = x.symbols.filter (fun y => decide (x.lowStart ≤ y.position)) →
        ∃ (u w : State) (y : Lane) (r : BurstRecord), u = { s with lanes := s.lanes.set l y } ∧
          y = { x with
            state := .closing, closeCount := 0, lowCount := 0, lowStart := 0, record := some r, symbols := kept
            member := {
              err := if x.member.err = 2 ^ 48 - 1 then x.member.err else x.member.err - (gone.map (·.err)).sum
              ref := if x.member.ref = 2 ^ 48 - 1 then x.member.ref else x.member.ref - (gone.map (·.ref)).sum
              n := if x.member.n = 2 ^ 32 - 1 then x.member.n else x.member.n - gone.length }
            chain := {
              err := if x.chain.err = 2 ^ 48 - 1 then x.chain.err else x.chain.err - (gone.map (·.err)).sum
              ref := if x.chain.ref = 2 ^ 48 - 1 then x.chain.ref else x.chain.ref - (gone.map (·.ref)).sum
              n := if x.chain.n = 2 ^ 32 - 1 then x.chain.n else x.chain.n - gone.length } } ∧
          r.outcome = .shortened ∧ r.cause = none ∧ r.gate = some .nothing ∧ r.lane = some l ∧
          r.symbols = some (kept.map fun z => (z.i, z.q)) ∧ r.sums = some y.member ∧ r.measurement = x.measurement ∧
          ((∀ p, x.role = .holder p → (s.prof p).claim = none) → w = u) ∧
          (∀ p, x.role = .holder p → (s.prof p).claim ≠ none → w = u.judge l p true) ∧
          (s.headFollows l = false → s.blockArrival l pos = w) ∧
          ∀ (g : QueuedGrant) (rest : List QueuedGrant), s.headFollows l = true → s.queue x.channel = g :: rest →
            (∀ h ∈ rest.head?, h.armReached = false) → w.FallsBack (s.blockArrival l pos) x.channel g rest)

/-- A sample in the one lane of its channel. When it completes the inputs of the lane's next position, the lane filters
them: the exact sum of the 24 products, rounded by 14 bits and saturated. In TRAINING the error is taken against the
pattern symbol, in TRACKING, over the data range, against the slicer's decision, which is listed and summed; every tap then
moves by the error times its input's conjugate, rounded by the class's shift and saturated, unless the shift is 0.
Saturation is noted. A position outside the data range is passed over. After the last preamble symbol the lane is TRACKING,
and an end tick noted before (log entry 7) is taken at once. The energy watch, State.blockArrival, acts last. -/
def Obligations.ACompletedSymbolIsDecided : Prop :=
  ∀ (s : State) (ch : Fin 6) (re im : BitVec 12) (l : Fin 12) (x : Lane) (j : Nat) (pos : Int) (data : Bool),
    s.resetHeld = false → (∀ k, s.serves k ch = decide (k = l)) → (x.state = .training ∨ x.state = .tracking) →
    x = { s.lane l with buffer := (s.lane l).buffer ++ [⟨re, im⟩] } → j = x.nextPos →
    pos = x.firstPos + ((s.lane l).buffer.length : Int) →
    data = decide ((if x.continued then x.base else x.base + x.cls.lp) ≤ j ∧
      j + x.cls.guardLen < x.base + x.grant.grant.length * (s.chan ch).spm.spm) →
    (pos < x.offsetFound + 4 * ((j : Int) + 6 + x.bias) →
      exec (.sampleArrival ch re im) s = .next (({ s with lanes := s.lanes.set l x } : State).blockArrival l pos)) ∧
    (x.offsetFound + 4 * ((j : Int) + 6 + x.bias) ≤ pos → x.state = .tracking → data = false →
      exec (.sampleArrival ch re im) s =
        .next (({ s with lanes := s.lanes.set l { x with nextPos := j + 1 } } : State).blockArrival l pos)) ∧
    ∀ (y z : Lane) (shift : Nat) (a w : Fin 24 → Cx) (sum rounded v target e : Cx) (plus : Sums → Sums),
      x.offsetFound + 4 * ((j : Int) + 6 + x.bias) ≤ pos →
      (∀ k, a k = x.sampleAt (x.offsetFound + 4 * ((j : Int) + 6 - (k.val : Int) + x.bias))) →
      sum = ⟨((List.finRange 24).map fun k => x.vec[k].re.toInt * (a k).re - x.vec[k].im.toInt * (a k).im).sum,
             ((List.finRange 24).map fun k => x.vec[k].re.toInt * (a k).im + x.vec[k].im.toInt * (a k).re).sum⟩ →
      rounded = ⟨(sum.re + 2 ^ 13) / 2 ^ 14, (sum.im + 2 ^ 13) / 2 ^ 14⟩ →
      v = ⟨max (-2048) (min 2047 rounded.re), max (-2048) (min 2047 rounded.im)⟩ →
      e = ⟨target.re - v.re, target.im - v.im⟩ →
      (∀ k, w k =
        ⟨x.vec[k].re.toInt + (e.re * (a k).re + e.im * (a k).im + 2 ^ (shift - 1)) / 2 ^ shift,
         x.vec[k].im.toInt + (e.im * (a k).re - e.re * (a k).im + 2 ^ (shift - 1)) / 2 ^ shift⟩) →
      y = { x with
        nextPos := j + 1
        vec := if shift = 0 then x.vec
          else Vector.ofFn fun k : Fin 24 =>
            ⟨BitVec.ofInt 16 (max (-32768) (min 32767 (w k).re)), BitVec.ofInt 16 (max (-32768) (min 32767 (w k).im))⟩
        saturated := decide (x.saturated = true ∨ v ≠ rounded ∨ (shift ≠ 0 ∧ ∃ k,
          ¬(-32768 ≤ (w k).re ∧ (w k).re ≤ 32767 ∧ -32768 ≤ (w k).im ∧ (w k).im ≤ 32767))) } →
      (∀ m, plus m = {
        err := min (2 ^ 48 - 1) (m.err + (e.re * e.re + e.im * e.im).toNat)
        ref := min (2 ^ 48 - 1) (m.ref + (target.re * target.re + target.im * target.im).toNat)
        n := min (2 ^ 32 - 1) (m.n + 1) }) →
      (x.state = .tracking → data = true → shift = x.cls.muTrack →
        target = ⟨sliceLevel x.cls.modulation v.re, sliceLevel x.cls.modulation v.im⟩ →
        z = { y with
          symbols := x.symbols ++ [{ position := j, i := sliceIndex x.cls.modulation v.re
                                     q := sliceIndex x.cls.modulation v.im
                                     err := (e.re * e.re + e.im * e.im).toNat
                                     ref := (target.re * target.re + target.im * target.im).toNat }]
          member := plus x.member, chain := plus x.chain } →
        exec (.sampleArrival ch re im) s = .next (({ s with lanes := s.lanes.set l z } : State).blockArrival l pos)) ∧
      (x.state = .training → shift = x.cls.muTrain →
        target = (match (x.preamble.getD j 0).toNat with
          | 0 => ⟨1024, 1024⟩ | 1 => ⟨-1024, 1024⟩ | 2 => ⟨-1024, -1024⟩ | _ => ⟨1024, -1024⟩) →
        z = { y with state := if x.cls.lp ≤ j + 1 then .tracking else .training } →
        ((z.state = .training ∨ x.endReached = false) →
          exec (.sampleArrival ch re im) s = .next (({ s with lanes := s.lanes.set l z } : State).blockArrival l pos)) ∧
        ∀ u : State, z.state = .tracking → x.endReached = true →
          exec (.endEvent l) { s with lanes := s.lanes.set l z } = .next u →
          exec (.sampleArrival ch re im) s = .next (u.blockArrival l pos))

/-- The end event of a TRACKING lane without a linked head: the lane enters CLOSING with outcome COMPLETE, its list,
sums and measurements fixed in its record, its close count 0, and the queue stays. A holder whose profile has a claim
waiting is judged at that entry, by State.judge as at a forward, which hands the holding on. The end tick has been noted
as reached (log entry 7). -/
def Obligations.EndEventClosesTheLane : Prop :=
  ∀ (s : State) (l : Fin 12) (x : Lane), s.resetHeld = false → s.lane l = x → x.state = .tracking →
    x.endReached = true → s.headFollows l = false →
    ∃ (u : State) (r : BurstRecord), u = { s with lanes := s.lanes.set l { x with
        state := .closing, closeCount := 0, record := some r, lowCount := 0, lowStart := 0 } } ∧
      ((∀ p, x.role = .holder p → (s.prof p).claim = none) → exec (.endEvent l) s = .next u) ∧
      (∀ p, x.role = .holder p → (s.prof p).claim ≠ none → exec (.endEvent l) s = .next (u.judge l p true)) ∧
      r.outcome = .complete ∧ r.cause = none ∧ r.channel = x.channel ∧ r.cls = x.grant.grant.cls ∧
      r.station = x.grant.grant.station ∧ r.start = x.grant.grant.start ∧ r.lane = some l ∧
      r.symbols = some (x.symbols.map fun y => (y.i, y.q)) ∧ r.sums = some x.member ∧
      r.measurement = x.measurement ∧ r.gate = some .nothing ∧ r.recentre = none ∧ r.flags.linked = false ∧
      r.ranging = if x.grant.grant.ranging then some x.vec else none

/-- The end event of a TRACKING lane whose CHAIN grant has its linked successor at the head: the ended grant's record
is placed, COMPLETE and LINKED without a gate result, and the head becomes the lane's grant with its class values, an
empty list and zero member sums; vector, bias, measurements, chain sums and role stay. The end tick has been noted as
reached (log entry 7). -/
def Obligations.EndEventContinuesAChain : Prop :=
  ∀ (s : State) (l : Fin 12) (x : Lane) (g : QueuedGrant) (rest : List QueuedGrant), s.resetHeld = false →
    s.lane l = x → x.state = .tracking → x.endReached = true → s.queue x.channel = g :: rest → g.link = true →
    x.grant.grant.chain = true → x.grant.grant.station = g.grant.station → x.grant.endTick = g.startTick →
    s.reached g.endTick = false → (∀ h ∈ rest.head?, h.armReached = false) →
    ∃ t r, exec (.endEvent l) s = .next t ∧
      t = { s with channels := s.channels.set x.channel { s.chan x.channel with queue := rest }
                   lanes := t.lanes, output := s.output.placeRecord r } ∧
      (∀ k, k ≠ l → t.lane k = s.lane k) ∧
      t.lane l = { x with
        grant := g, cls := (s.chan x.channel).classes[g.grant.cls]
        base := x.base + x.grant.grant.length * (s.chan x.channel).spm.spm, continued := true, symbols := []
        member := ⟨0, 0, 0⟩, lowCount := 0, lowStart := 0, holdoverMark := s.timebase.sync == .holdover
        endReached := false } ∧
      r.outcome = .complete ∧ r.flags.linked = true ∧ r.flags.holdover = x.holdoverMark ∧ r.gate = none ∧
      r.symbols = some (x.symbols.map fun y => (y.i, y.q)) ∧ r.sums = some x.member ∧
      r.measurement = x.measurement ∧ r.station = x.grant.grant.station ∧ r.start = x.grant.grant.start ∧
      r.lane = some l ∧ r.counter = s.timebase.counter

/-- At close completion a lane that holds no profile hands over its record, with the flags that stand at the emission,
and becomes FREE; a STOPPING channel left empty becomes READY. That the close completes at a command of its own is the
model's choice (log entry 8), and so is that a FREE lane's other fields stand as in an idle lane (log entry 21). -/
def Obligations.CloseCompletionFreesTheLane : Prop :=
  ∀ (s : State) (l : Fin 12) (x : Lane) (r : BurstRecord), s.resetHeld = false → s.lane l = x → x.state = .closing →
    x.closeCount = 128 → (∀ p, x.role ≠ .holder p) → x.record = some r →
    ∃ t, exec (.closeCompletion l) s = .next t ∧
      t = { s with channels := t.channels, lanes := s.lanes.set l Lane.idle, output := t.output } ∧
      t.output = s.output.placeRecord { r with
        counter := s.timebase.counter
        flags := { r.flags with holdover := x.holdoverMark, saturated := x.saturated, forwarded := x.forwarded,
                                overridden := x.overridden } } ∧
      (∀ k, k ≠ x.channel → t.chan k = s.chan k) ∧
      t.chan x.channel = { s.chan x.channel with
        state := if (s.chan x.channel).state = .stopping ∧ s.queue x.channel = [] ∧
            (∀ k, k ≠ l → s.serves k x.channel = false) then .ready else (s.chan x.channel).state }

/-! ### The writeback judgement -/

/-- The writeback judgement of lane l, standing as x, which holds profile p, standing as q. Nothing for a RETIRING or
overridden profile, a NO_PREAMBLE burst or fewer than 16 symbols: gate result NONE, and the OVERRIDDEN flag for an
overridden profile. On a MER index at the gate or above, PASS with the recentre section and its flags: the recentred vector,
offset and bias enter the profile, which is BOUND with age and fail count 0. Below it, FAIL: the fail count rises, and at
the revert limit the profile reverts with a PROFILE_REVERTED notice. The holder is then released and the overridden flag
cleared; a claim waiting becomes holder with the preload of the profile as judged, and on a RETIRING profile, which is
freed, a cold guest, which goes on referring to the profile by the model's deduction (log entry 20). A judgement at a
forward or for a claim sets FORWARDED. The close completion of a holder makes the judgement, hands over the record and
frees the lane; that it is a command of its own is the model's choice (log entry 8), and so is that the FREE lane stands as
an idle one (log entry 21). -/
def Obligations.TheJudgementWritesTheProfileBack : Prop :=
  ∀ (s : State) (l : Fin 12) (x : Lane) (p : Fin 384) (q : Profile) (r : BurstRecord) (forward : Bool) (mer : Nat)
    (c : Recentre) (v : CoefVector), s.lane l = x → s.prof p = q → x.record = some r →
    mer = merIndex x.chain.err x.chain.ref → c = recentreOf x.vec x.bias → v = shiftVector x.vec c.applied →
    ∃ (y : Lane) (b : Profile) (o : OutputQueue),
      ((q.state = .retiring ∨ q.overridden = true ∨ r.outcome = .noPreamble ∨ x.chain.n < 16) → b = q ∧ o = s.output ∧
        y = { x with
          forwarded := x.forwarded || forward
          overridden := x.overridden || (q.state != .retiring && q.overridden)
          record := some { r with gate := some .nothing } }) ∧
      (∀ m, x.measurement = some m → q.state ≠ .retiring → q.overridden = false → r.outcome ≠ .noPreamble →
        16 ≤ x.chain.n → x.cls.gate ≤ mer → o = s.output ∧
        b = { q with
          previous := some q.current, current := v, offset := max (-127) (min 127 m.offset)
          bias := max (-6) (min 6 (x.bias + c.shift)), age := 0, failCount := 0, lastMer := some mer, state := .bound } ∧
        y = { x with
          forwarded := x.forwarded || forward
          record := some { r with
            gate := some .pass, recentre := some c
            flags := { r.flags with recentred := decide (c.applied ≠ 0), biasLimit := decide (c.applied ≠ c.shift) }
            ranging := r.ranging.map fun _ => v } }) ∧
      (q.state ≠ .retiring → q.overridden = false → r.outcome ≠ .noPreamble → 16 ≤ x.chain.n → mer < x.cls.gate →
        y = { x with forwarded := x.forwarded || forward, record := some { r with gate := some .fail } } ∧
        b = (if q.failCount + 1 < q.revertLimit then { q with failCount := q.failCount + 1, lastMer := some mer }
          else { q with current := q.previous.getD defaultVector, previous := none, failCount := 0, lastMer := some mer }) ∧
        o = (if q.failCount + 1 < q.revertLimit then s.output
          else s.output.placeNotice s.timebase.counter (.profileReverted p q.key))) ∧
      (q.claim = none → s.judge l p forward = { s with
        lanes := s.lanes.set l { y with role := .none }
        profiles := s.profiles.set p
          (if q.state = .retiring then Profile.free else { b with holder := none, overridden := false })
        output := o }) ∧
      (∀ m, q.claim = some m → m ≠ l → q.state ≠ .retiring → s.judge l p forward = { s with
        lanes := (s.lanes.set l { y with role := .none }).set m { s.lane m with
          role := .holder p
          vec := if (s.lane m).grant.grant.ranging = false ∧ b.state = .bound then b.current else defaultVector
          bias := if (s.lane m).grant.grant.ranging = false ∧ b.state = .bound then b.bias else 0
          cold := !decide ((s.lane m).grant.grant.ranging = false ∧ b.state = .bound) }
        profiles := s.profiles.set p { b with holder := some m, claim := none, overridden := false }
        output := o }) ∧
      (∀ m, q.claim = some m → m ≠ l → q.state = .retiring → s.judge l p forward = { s with
        lanes := (s.lanes.set l { y with role := .none }).set m { s.lane m with
          role := .coldGuest (some p), vec := defaultVector, bias := 0, cold := true, guest := true }
        profiles := s.profiles.set p Profile.free
        output := o }) ∧
      ∀ u : State, forward = false → u = s.judge l p false → s.resetHeld = false → x.state = .closing →
        x.closeCount = 128 → x.role = .holder p → q.claim ≠ some l →
        ∃ (t : State) (f : BurstRecord), exec (.closeCompletion l) s = .next t ∧ y.record = some f ∧
          t = { u with
            channels := t.channels, lanes := u.lanes.set l Lane.idle
            output := o.placeRecord { f with
              counter := s.timebase.counter
              flags := { f.flags with holdover := x.holdoverMark, saturated := x.saturated, forwarded := y.forwarded,
                                      overridden := y.overridden } } } ∧
          (∀ k, k ≠ x.channel → t.chan k = s.chan k) ∧
          t.chan x.channel = { s.chan x.channel with
            state := if (s.chan x.channel).state = .stopping ∧ s.queue x.channel = [] ∧
                (∀ k, k ≠ l → s.serves k x.channel = false) then .ready else (s.chan x.channel).state }

/-- R165, R166: D is the lowest-numbered tap of the largest squared magnitude, s = D − 6, the new bias is b + s clamped to
−6 .. 6 and a what it moved; tap k of the stored vector is the old tap k + a, or (0, 0) where there is none. -/
def Obligations.RecentringMovesTheDominantTap : Prop :=
  ∀ (v : CoefVector) (b : Int), -6 ≤ b → b ≤ 6 →
    (∃ D : Fin 24, (recentreOf v b).dominant = D.val ∧ (∀ k : Fin 24, v[k].toCx.sq ≤ v[D].toCx.sq) ∧
      (∀ k : Fin 24, v[k].toCx.sq = v[D].toCx.sq → D ≤ k) ∧ (recentreOf v b).shift = (D.val : Int) - 6) ∧
    (recentreOf v b).applied = max (-6) (min 6 (b + (recentreOf v b).shift)) - b ∧
    -12 ≤ (recentreOf v b).applied ∧ (recentreOf v b).applied ≤ 12 ∧
    (-6 ≤ b + (recentreOf v b).shift → b + (recentreOf v b).shift ≤ 6 →
      (recentreOf v b).applied = (recentreOf v b).shift) ∧
    (∀ (a : Int) (k j : Fin 24), (j.val : Int) = (k.val : Int) + a → (shiftVector v a)[k] = v[j]) ∧
    (∀ (a : Int) (k : Fin 24), ((k.val : Int) + a < 0 ∨ 24 ≤ (k.val : Int) + a) → (shiftVector v a)[k] = ⟨0, 0⟩) ∧
    shiftVector v 0 = v

/-! ### Arithmetic of the equalizer -/

/-- The decision of a component is the level of the modulation's axis nearest to it, the upper one on a boundary, and
the outermost one beyond it; its index counts the levels from the most negative. -/
def Obligations.TheSlicerTakesTheNearestLevel : Prop :=
  ∀ (m : Modulation) (v : Int), -2048 ≤ v → v ≤ 2047 →
    ∃ i : Nat, (i : Int) < levels m ∧ sliceIndex m v = i ∧
      sliceLevel m v = (2 * ((i : Int) - levels m / 2) + 1) * levelStep m ∧
      ∀ j : Nat, (j : Int) < levels m →
        |v - sliceLevel m v| ≤ |v - (2 * ((j : Int) - levels m / 2) + 1) * levelStep m| ∧
        (|v - sliceLevel m v| = |v - (2 * ((j : Int) - levels m / 2) + 1) * levelStep m| → j ≤ i)

/-- R117: the MER index is 31 for a zero error sum, 0 when the error sum exceeds the reference sum, and otherwise the
largest g in 0 .. 31 with err × 2^g at most ref. -/
def Obligations.TheMerIndexIsTheLargestPower : Prop :=
  ∀ err ref : Nat,
    (err = 0 → merIndex err ref = 31) ∧ (err ≠ 0 → ref < err → merIndex err ref = 0) ∧
    (err ≠ 0 → err ≤ ref → merIndex err ref ≤ 31 ∧ err * 2 ^ merIndex err ref ≤ ref ∧
      ∀ g, g ≤ 31 → err * 2 ^ g ≤ ref → g ≤ merIndex err ref)

/-! ### The output queue -/

/-- A record is placed whole while it fits the record limit, without its list when only that fits, and
otherwise dropped with the drop mark set; a placed record carries OUTPUT_TRUNCATED when its list was left out or the mark
was set, and clears the mark. A notice is placed while fewer than 32 are held and it fits the capacity, carrying
NOTICES_LOST when the loss mark was set, and otherwise sets that mark. The bytes of a record, a response and a notice are
those of section 10.6, and a symbol list packs each symbol's two indices from the most significant bit on, padded with
zero bits. -/
def Obligations.RecordsAndNoticesGiveWayWhenFull : Prop :=
  (∀ (o : OutputQueue) (r : BurstRecord),
    o.placeRecord r =
      if (o.items.map fun x => x.bytes.length).sum + (OutItem.record r).bytes.length ≤ 229376 then
        { o with items := o.items ++ [.record { r with flags := { r.flags with truncated := o.dropMark } }]
                 dropMark := false }
      else if r.symbols ≠ none ∧ (o.items.map fun x => x.bytes.length).sum +
          (OutItem.record { r with symbols := none }).bytes.length ≤ 229376 then
        { o with items := o.items ++ [.record { r with symbols := none, flags := { r.flags with truncated := true } }]
                 dropMark := false }
      else { o with dropMark := true }) ∧
  (∀ (o : OutputQueue) (counter : Tick) (e : NoticeEvent),
    o.placeNotice counter e =
      if o.notices < 32 ∧ (o.items.map fun x => x.bytes.length).sum + 16 ≤ 262144 then
        { o with items := o.items ++ [.notice ⟨e, o.noticeLoss, counter⟩], noticeLoss := false }
      else { o with noticeLoss := true }) ∧
  (∀ (r : BurstRecord) (bit : Bool → Nat), (∀ b, bit b = if b then 1 else 0) → r.cause ≠ some .resetNode →
    ∃ (list body : List Byte) (h pad : Nat), (OutItem.record r).bytes = [0x80#8, 0#8] ++ beBytes 2 (body.length + 4) ++ body ∧
      h = (match r.modulation with | .qpsk => 1 | .qam16 => 2 | .qam64 => 3 | .qam256 => 4) ∧ pad < 8 ∧
      (list.flatMap fun b => (List.range 8).map fun k => b.getLsbD (7 - k)) =
        ((r.symbols.getD []).flatMap fun z => [z.1, z.2].flatMap fun i => (List.range h).map fun k => i.testBit (h - 1 - k)) ++
          List.replicate pad false ∧
      body = beBytes 1 r.channel.val ++ beBytes 1 r.cls.val ++
        beBytes 1 (match r.modulation with | .qpsk => 0 | .qam16 => 1 | .qam64 => 2 | .qam256 => 3) ++
        beBytes 1 (match r.outcome with
          | .complete => 1 | .shortened => 2 | .noPreamble => 3 | .aborted => 4 | .noLane => 5 | .missed => 6
          | .noInput => 7) ++
        beBytes 2 r.station ++
        beBytes 1 (match r.cause with
          | none | some .resetNode => 0
          | some .channelHalt => 1 | some .timebaseStep => 2 | some .syncLost => 3 | some .inputLost => 4) ++
        beBytes 1 (match r.gate with | none => 0 | some .nothing => 1 | some .pass => 2 | some .fail => 3) ++
        beBytes 4 r.start.toNat ++ beBytes 4 r.counter.toNat ++
        beBytes 2 (bit r.flags.cold + 2 * bit r.flags.guest + 4 * bit r.flags.unbound + 8 * bit r.flags.holdover +
          16 * bit r.flags.saturated + 32 * bit r.flags.linked + 64 * bit r.flags.forwarded +
          128 * bit r.flags.overridden + 256 * bit r.flags.recentred + 512 * bit r.flags.biasLimit +
          1024 * bit r.flags.truncated) ++
        beBytes 1 (bit r.laneSection.isSome + 2 * bit r.measurement.isSome + 4 * bit r.sums.isSome +
          8 * bit r.recentre.isSome + 16 * bit r.symbols.isSome + 32 * bit r.ranging.isSome) ++
        beBytes 1 (match r.lane with | none => 255 | some l => l.val) ++
        beSigned 2 (match r.measurement with | none => 0 | some m => m.offset) ++
        beBytes 1 (match r.sums with | none => 0 | some m => merIndex m.err m.ref) ++
        beBytes 1 (match r.recentre with | none => 0 | some c => c.dominant) ++
        beBytes 4 (match r.measurement with | none => 0 | some m => m.energy) ++
        beBytes 2 (match r.sums with | none => 0 | some m => m.n) ++
        beSigned 1 (match r.recentre with | none => 0 | some c => c.shift) ++
        beSigned 1 (match r.recentre with | none => 0 | some c => c.applied) ++
        beBytes 8 (match r.sums with | none => 0 | some m => m.err) ++
        beBytes 8 (match r.sums with | none => 0 | some m => m.ref) ++ beBytes 2 list.length ++
        (match r.laneSection with
          | none => []
          | some y => beBytes 2 (match y.profile with | none => 65535 | some p => p.val) ++ beSigned 1 y.bias ++
            beBytes 1 y.chainMer ++ beBytes 4 y.windowOpen.toNat ++ beBytes 4 y.searchEnd.toNat ++ beBytes 4 y.chain.n ++
            beBytes 8 y.chain.err ++ beBytes 8 y.chain.ref ++ y.taps.flatMap fun t => beBytes 4 t.1 ++ beBytes 4 t.2) ++
        (match r.ranging with
          | none => []
          | some v => v.toList.flatMap fun c => beSigned 2 c.re.toInt ++ beSigned 2 c.im.toInt) ++ list) ∧
  (∀ (tag kind : Byte) (status : Status) (fields : List Byte),
    (OutItem.response ⟨tag, kind, status, fields⟩).bytes =
      [0x81#8, tag] ++ beBytes 2 (fields.length + 6) ++ [kind] ++
        beBytes 1 (match status with
          | .ok => 0x00 | .clamped => 0x01 | .endReached => 0x02 | .malformed => 0x10 | .unknownKind => 0x11
          | .badChannel => 0x20 | .channelState => 0x21 | .notSynced => 0x22 | .badClass => 0x30 | .badLength => 0x31
          | .grantLate => 0x32 | .grantOrder => 0x33 | .grantChain => 0x34 | .queueFull => 0x35 | .tableFull => 0x40
          | .keyExists => 0x41 | .notBound => 0x42 | .inUse => 0x43 | .badIndex => 0x44) ++ fields) ∧
  ∀ (e : NoticeEvent) (lost : Bool) (counter : Tick) (named : Fin 384 → Option Key → List Byte),
    (∀ p k, named p k = beBytes 2 p.val ++
      (match k with | none => [0#8, 0#8, 0#8] | some k => beBytes 2 k.station ++ beBytes 1 k.channel.val) ++ [0#8]) →
    (OutItem.notice ⟨e, lost, counter⟩).bytes =
      [0x82#8, 0#8, 0#8, 16#8] ++
        beBytes 1 (match e with
          | .syncRegained _ => 1 | .syncHoldover _ => 2 | .syncLost _ => 3 | .timebaseStep _ => 4
          | .profileStale _ _ => 5 | .profileReverted _ _ => 6) ++
        [if lost then 1#8 else 0#8] ++ beBytes 4 counter.toNat ++
        (match e with
          | .syncRegained t | .syncHoldover t | .syncLost t => beBytes 4 t.toNat ++ [0#8, 0#8]
          | .timebaseStep d => beSigned 4 d ++ [0#8, 0#8]
          | .profileStale p k | .profileReverted p k => named p k)

/-! ### Laws that every step keeps -/

/-- The state after reset satisfies the laws that every step keeps. -/
def Obligations.ResetSatisfiesTheLaws : Prop :=
  State.reset.output.Bounded ∧ State.reset.Quiet ∧ State.reset.TablesLegal ∧ State.reset.StationsLegal

/-- The output queue never holds more than 262,144 bytes, nor more than 32 notices. -/
def Obligations.StepsKeepTheOutputWithinItsLimits : Prop :=
  ∀ s t : State, s.output.Bounded → step s = .next t → t.output.Bounded

/-- R11: while UNSYNCED no channel is RUNNING or STOPPING, every queue is empty and every lane is FREE. It follows from the
law, kept by every step, that a channel neither RUNNING nor STOPPING holds no grant and no lane. -/
def Obligations.StepsKeepUnsyncedChannelsQuiet : Prop :=
  (∀ s t : State, s.Quiet → step s = .next t → t.Quiet) ∧
  ∀ s : State, s.Quiet → s.timebase.sync = .unsynced →
    (∀ ch, (s.chan ch).state ≠ .running ∧ (s.chan ch).state ≠ .stopping ∧ s.queue ch = []) ∧
    ∀ l, (s.lane l).state = .free

/-- Every stored class entry stays in its ranges, every pattern is empty or 8 .. 64 symbols long, and no Lp exceeds the
non-empty pattern it names. -/
def Obligations.StepsKeepTheTablesLegal : Prop :=
  ∀ s t : State, s.TablesLegal → step s = .next t → t.TablesLegal

/-- R127, R140 and R154: the directory names exactly the BOUND and STALE profiles, no key and no profile twice; every
fail count is below its revert limit, a BOUND profile's age below the age limit and a STALE one's equal to it; a
profile has at most one holder and at most one claim, never the same lane. Every step keeps the law they are part of.
-/
def Obligations.StepsKeepTheStationsConsistent : Prop :=
  (∀ s t : State, s.StationsLegal → step s = .next t → t.StationsLegal) ∧
  ∀ s : State, s.StationsLegal →
    (s.directory.length ≤ 384 ∧ (s.directory.map (·.key)).Nodup ∧ (s.directory.map (·.profile)).Nodup ∧
      ∀ p, (∃ e ∈ s.directory, e.profile = p) ↔ ((s.prof p).state = .bound ∨ (s.prof p).state = .stale)) ∧
    (∀ p, (s.prof p).failCount < (s.prof p).revertLimit ∧
      ((s.prof p).state = .bound → (s.prof p).age < s.sweep.ageLimit) ∧
      ((s.prof p).state = .stale → (s.prof p).age = s.sweep.ageLimit)) ∧
    ∀ p l k, ((s.lane l).role = .holder p → (s.lane k).role = .holder p → k = l) ∧
      ((s.lane l).role = .claim p → (s.lane k).role = .claim p → k = l) ∧
      ((s.prof p).holder = some l → (s.prof p).claim = some k → k ≠ l)
end

