-- ==== Sys2Proof/Laws/State.lean ====
section
/-! SUPPORT. One lemma for each field of each update of the state, and what each access reads after each update, so that
no later proof unfolds a record update. -/

namespace Sys2Proof.Machine

/-! ### `setLane` -/

@[simp] theorem State.setLane_resetHeld (s : State) (l : Fin 12) (x : Lane) : (s.setLane l x).resetHeld = s.resetHeld := rfl
@[simp] theorem State.setLane_timebase (s : State) (l : Fin 12) (x : Lane) : (s.setLane l x).timebase = s.timebase := rfl
@[simp] theorem State.setLane_channels (s : State) (l : Fin 12) (x : Lane) : (s.setLane l x).channels = s.channels := rfl
@[simp] theorem State.setLane_patterns (s : State) (l : Fin 12) (x : Lane) : (s.setLane l x).patterns = s.patterns := rfl
@[simp] theorem State.setLane_lanes (s : State) (l : Fin 12) (x : Lane) : (s.setLane l x).lanes = s.lanes.set l x := rfl
@[simp] theorem State.setLane_profiles (s : State) (l : Fin 12) (x : Lane) : (s.setLane l x).profiles = s.profiles := rfl
@[simp] theorem State.setLane_directory (s : State) (l : Fin 12) (x : Lane) : (s.setLane l x).directory = s.directory := rfl
@[simp] theorem State.setLane_sweep (s : State) (l : Fin 12) (x : Lane) : (s.setLane l x).sweep = s.sweep := rfl
@[simp] theorem State.setLane_output (s : State) (l : Fin 12) (x : Lane) : (s.setLane l x).output = s.output := rfl
@[simp] theorem State.setLane_link (s : State) (l : Fin 12) (x : Lane) : (s.setLane l x).link = s.link := rfl
@[simp] theorem State.setLane_pending (s : State) (l : Fin 12) (x : Lane) : (s.setLane l x).pending = s.pending := rfl
@[simp] theorem State.setLane_chan (s : State) (l : Fin 12) (x : Lane) (k : Fin 6) : (s.setLane l x).chan k = s.chan k := rfl
@[simp] theorem State.setLane_prof (s : State) (l : Fin 12) (x : Lane) (k : Fin 384) : (s.setLane l x).prof k = s.prof k := rfl
@[simp] theorem State.setLane_queue (s : State) (l : Fin 12) (x : Lane) (k : Fin 6) : (s.setLane l x).queue k = s.queue k := rfl
@[simp] theorem State.setLane_counter (s : State) (l : Fin 12) (x : Lane) : (s.setLane l x).counter = s.counter := rfl

/-! ### `setChan` -/

@[simp] theorem State.setChan_resetHeld (s : State) (ch : Fin 6) (c : Channel) : (s.setChan ch c).resetHeld = s.resetHeld := rfl
@[simp] theorem State.setChan_timebase (s : State) (ch : Fin 6) (c : Channel) : (s.setChan ch c).timebase = s.timebase := rfl
@[simp] theorem State.setChan_channels (s : State) (ch : Fin 6) (c : Channel) : (s.setChan ch c).channels = s.channels.set ch c := rfl
@[simp] theorem State.setChan_patterns (s : State) (ch : Fin 6) (c : Channel) : (s.setChan ch c).patterns = s.patterns := rfl
@[simp] theorem State.setChan_lanes (s : State) (ch : Fin 6) (c : Channel) : (s.setChan ch c).lanes = s.lanes := rfl
@[simp] theorem State.setChan_profiles (s : State) (ch : Fin 6) (c : Channel) : (s.setChan ch c).profiles = s.profiles := rfl
@[simp] theorem State.setChan_directory (s : State) (ch : Fin 6) (c : Channel) : (s.setChan ch c).directory = s.directory := rfl
@[simp] theorem State.setChan_sweep (s : State) (ch : Fin 6) (c : Channel) : (s.setChan ch c).sweep = s.sweep := rfl
@[simp] theorem State.setChan_output (s : State) (ch : Fin 6) (c : Channel) : (s.setChan ch c).output = s.output := rfl
@[simp] theorem State.setChan_link (s : State) (ch : Fin 6) (c : Channel) : (s.setChan ch c).link = s.link := rfl
@[simp] theorem State.setChan_pending (s : State) (ch : Fin 6) (c : Channel) : (s.setChan ch c).pending = s.pending := rfl
@[simp] theorem State.setChan_lane (s : State) (ch : Fin 6) (c : Channel) (k : Fin 12) : (s.setChan ch c).lane k = s.lane k := rfl
@[simp] theorem State.setChan_prof (s : State) (ch : Fin 6) (c : Channel) (k : Fin 384) : (s.setChan ch c).prof k = s.prof k := rfl
@[simp] theorem State.setChan_counter (s : State) (ch : Fin 6) (c : Channel) : (s.setChan ch c).counter = s.counter := rfl

/-! ### `setProf` -/

@[simp] theorem State.setProf_resetHeld (s : State) (p : Fin 384) (x : Profile) : (s.setProf p x).resetHeld = s.resetHeld := rfl
@[simp] theorem State.setProf_timebase (s : State) (p : Fin 384) (x : Profile) : (s.setProf p x).timebase = s.timebase := rfl
@[simp] theorem State.setProf_channels (s : State) (p : Fin 384) (x : Profile) : (s.setProf p x).channels = s.channels := rfl
@[simp] theorem State.setProf_patterns (s : State) (p : Fin 384) (x : Profile) : (s.setProf p x).patterns = s.patterns := rfl
@[simp] theorem State.setProf_lanes (s : State) (p : Fin 384) (x : Profile) : (s.setProf p x).lanes = s.lanes := rfl
@[simp] theorem State.setProf_profiles (s : State) (p : Fin 384) (x : Profile) : (s.setProf p x).profiles = s.profiles.set p x := rfl
@[simp] theorem State.setProf_directory (s : State) (p : Fin 384) (x : Profile) : (s.setProf p x).directory = s.directory := rfl
@[simp] theorem State.setProf_sweep (s : State) (p : Fin 384) (x : Profile) : (s.setProf p x).sweep = s.sweep := rfl
@[simp] theorem State.setProf_output (s : State) (p : Fin 384) (x : Profile) : (s.setProf p x).output = s.output := rfl
@[simp] theorem State.setProf_link (s : State) (p : Fin 384) (x : Profile) : (s.setProf p x).link = s.link := rfl
@[simp] theorem State.setProf_pending (s : State) (p : Fin 384) (x : Profile) : (s.setProf p x).pending = s.pending := rfl
@[simp] theorem State.setProf_lane (s : State) (p : Fin 384) (x : Profile) (k : Fin 12) : (s.setProf p x).lane k = s.lane k := rfl
@[simp] theorem State.setProf_chan (s : State) (p : Fin 384) (x : Profile) (k : Fin 6) : (s.setProf p x).chan k = s.chan k := rfl
@[simp] theorem State.setProf_queue (s : State) (p : Fin 384) (x : Profile) (k : Fin 6) : (s.setProf p x).queue k = s.queue k := rfl
@[simp] theorem State.setProf_counter (s : State) (p : Fin 384) (x : Profile) : (s.setProf p x).counter = s.counter := rfl

/-! ### `setTimebase` -/

@[simp] theorem State.setTimebase_resetHeld (s : State) (t : Timebase) : (s.setTimebase t).resetHeld = s.resetHeld := rfl
@[simp] theorem State.setTimebase_timebase (s : State) (t : Timebase) : (s.setTimebase t).timebase = t := rfl
@[simp] theorem State.setTimebase_channels (s : State) (t : Timebase) : (s.setTimebase t).channels = s.channels := rfl
@[simp] theorem State.setTimebase_patterns (s : State) (t : Timebase) : (s.setTimebase t).patterns = s.patterns := rfl
@[simp] theorem State.setTimebase_lanes (s : State) (t : Timebase) : (s.setTimebase t).lanes = s.lanes := rfl
@[simp] theorem State.setTimebase_profiles (s : State) (t : Timebase) : (s.setTimebase t).profiles = s.profiles := rfl
@[simp] theorem State.setTimebase_directory (s : State) (t : Timebase) : (s.setTimebase t).directory = s.directory := rfl
@[simp] theorem State.setTimebase_sweep (s : State) (t : Timebase) : (s.setTimebase t).sweep = s.sweep := rfl
@[simp] theorem State.setTimebase_output (s : State) (t : Timebase) : (s.setTimebase t).output = s.output := rfl
@[simp] theorem State.setTimebase_link (s : State) (t : Timebase) : (s.setTimebase t).link = s.link := rfl
@[simp] theorem State.setTimebase_pending (s : State) (t : Timebase) : (s.setTimebase t).pending = s.pending := rfl
@[simp] theorem State.setTimebase_lane (s : State) (t : Timebase) (k : Fin 12) : (s.setTimebase t).lane k = s.lane k := rfl
@[simp] theorem State.setTimebase_chan (s : State) (t : Timebase) (k : Fin 6) : (s.setTimebase t).chan k = s.chan k := rfl
@[simp] theorem State.setTimebase_prof (s : State) (t : Timebase) (k : Fin 384) : (s.setTimebase t).prof k = s.prof k := rfl
@[simp] theorem State.setTimebase_queue (s : State) (t : Timebase) (k : Fin 6) : (s.setTimebase t).queue k = s.queue k := rfl

/-! ### `setOutput` -/

@[simp] theorem State.setOutput_resetHeld (s : State) (o : OutputQueue) : (s.setOutput o).resetHeld = s.resetHeld := rfl
@[simp] theorem State.setOutput_timebase (s : State) (o : OutputQueue) : (s.setOutput o).timebase = s.timebase := rfl
@[simp] theorem State.setOutput_channels (s : State) (o : OutputQueue) : (s.setOutput o).channels = s.channels := rfl
@[simp] theorem State.setOutput_patterns (s : State) (o : OutputQueue) : (s.setOutput o).patterns = s.patterns := rfl
@[simp] theorem State.setOutput_lanes (s : State) (o : OutputQueue) : (s.setOutput o).lanes = s.lanes := rfl
@[simp] theorem State.setOutput_profiles (s : State) (o : OutputQueue) : (s.setOutput o).profiles = s.profiles := rfl
@[simp] theorem State.setOutput_directory (s : State) (o : OutputQueue) : (s.setOutput o).directory = s.directory := rfl
@[simp] theorem State.setOutput_sweep (s : State) (o : OutputQueue) : (s.setOutput o).sweep = s.sweep := rfl
@[simp] theorem State.setOutput_output (s : State) (o : OutputQueue) : (s.setOutput o).output = o := rfl
@[simp] theorem State.setOutput_link (s : State) (o : OutputQueue) : (s.setOutput o).link = s.link := rfl
@[simp] theorem State.setOutput_pending (s : State) (o : OutputQueue) : (s.setOutput o).pending = s.pending := rfl
@[simp] theorem State.setOutput_lane (s : State) (o : OutputQueue) (k : Fin 12) : (s.setOutput o).lane k = s.lane k := rfl
@[simp] theorem State.setOutput_chan (s : State) (o : OutputQueue) (k : Fin 6) : (s.setOutput o).chan k = s.chan k := rfl
@[simp] theorem State.setOutput_prof (s : State) (o : OutputQueue) (k : Fin 384) : (s.setOutput o).prof k = s.prof k := rfl
@[simp] theorem State.setOutput_queue (s : State) (o : OutputQueue) (k : Fin 6) : (s.setOutput o).queue k = s.queue k := rfl
@[simp] theorem State.setOutput_counter (s : State) (o : OutputQueue) : (s.setOutput o).counter = s.counter := rfl

/-! ### `setLink` -/

@[simp] theorem State.setLink_resetHeld (s : State) (n : NodeLink) : (s.setLink n).resetHeld = s.resetHeld := rfl
@[simp] theorem State.setLink_timebase (s : State) (n : NodeLink) : (s.setLink n).timebase = s.timebase := rfl
@[simp] theorem State.setLink_channels (s : State) (n : NodeLink) : (s.setLink n).channels = s.channels := rfl
@[simp] theorem State.setLink_patterns (s : State) (n : NodeLink) : (s.setLink n).patterns = s.patterns := rfl
@[simp] theorem State.setLink_lanes (s : State) (n : NodeLink) : (s.setLink n).lanes = s.lanes := rfl
@[simp] theorem State.setLink_profiles (s : State) (n : NodeLink) : (s.setLink n).profiles = s.profiles := rfl
@[simp] theorem State.setLink_directory (s : State) (n : NodeLink) : (s.setLink n).directory = s.directory := rfl
@[simp] theorem State.setLink_sweep (s : State) (n : NodeLink) : (s.setLink n).sweep = s.sweep := rfl
@[simp] theorem State.setLink_output (s : State) (n : NodeLink) : (s.setLink n).output = s.output := rfl
@[simp] theorem State.setLink_link (s : State) (n : NodeLink) : (s.setLink n).link = n := rfl
@[simp] theorem State.setLink_pending (s : State) (n : NodeLink) : (s.setLink n).pending = s.pending := rfl
@[simp] theorem State.setLink_lane (s : State) (n : NodeLink) (k : Fin 12) : (s.setLink n).lane k = s.lane k := rfl
@[simp] theorem State.setLink_chan (s : State) (n : NodeLink) (k : Fin 6) : (s.setLink n).chan k = s.chan k := rfl
@[simp] theorem State.setLink_prof (s : State) (n : NodeLink) (k : Fin 384) : (s.setLink n).prof k = s.prof k := rfl
@[simp] theorem State.setLink_queue (s : State) (n : NodeLink) (k : Fin 6) : (s.setLink n).queue k = s.queue k := rfl
@[simp] theorem State.setLink_counter (s : State) (n : NodeLink) : (s.setLink n).counter = s.counter := rfl

/-! ### `setSweep` -/

@[simp] theorem State.setSweep_resetHeld (s : State) (w : Sweep) : (s.setSweep w).resetHeld = s.resetHeld := rfl
@[simp] theorem State.setSweep_timebase (s : State) (w : Sweep) : (s.setSweep w).timebase = s.timebase := rfl
@[simp] theorem State.setSweep_channels (s : State) (w : Sweep) : (s.setSweep w).channels = s.channels := rfl
@[simp] theorem State.setSweep_patterns (s : State) (w : Sweep) : (s.setSweep w).patterns = s.patterns := rfl
@[simp] theorem State.setSweep_lanes (s : State) (w : Sweep) : (s.setSweep w).lanes = s.lanes := rfl
@[simp] theorem State.setSweep_profiles (s : State) (w : Sweep) : (s.setSweep w).profiles = s.profiles := rfl
@[simp] theorem State.setSweep_directory (s : State) (w : Sweep) : (s.setSweep w).directory = s.directory := rfl
@[simp] theorem State.setSweep_sweep (s : State) (w : Sweep) : (s.setSweep w).sweep = w := rfl
@[simp] theorem State.setSweep_output (s : State) (w : Sweep) : (s.setSweep w).output = s.output := rfl
@[simp] theorem State.setSweep_link (s : State) (w : Sweep) : (s.setSweep w).link = s.link := rfl
@[simp] theorem State.setSweep_pending (s : State) (w : Sweep) : (s.setSweep w).pending = s.pending := rfl
@[simp] theorem State.setSweep_lane (s : State) (w : Sweep) (k : Fin 12) : (s.setSweep w).lane k = s.lane k := rfl
@[simp] theorem State.setSweep_chan (s : State) (w : Sweep) (k : Fin 6) : (s.setSweep w).chan k = s.chan k := rfl
@[simp] theorem State.setSweep_prof (s : State) (w : Sweep) (k : Fin 384) : (s.setSweep w).prof k = s.prof k := rfl
@[simp] theorem State.setSweep_queue (s : State) (w : Sweep) (k : Fin 6) : (s.setSweep w).queue k = s.queue k := rfl
@[simp] theorem State.setSweep_counter (s : State) (w : Sweep) : (s.setSweep w).counter = s.counter := rfl

/-! ### `setDirectory` -/

@[simp] theorem State.setDirectory_resetHeld (s : State) (d : List DirEntry) : (s.setDirectory d).resetHeld = s.resetHeld := rfl
@[simp] theorem State.setDirectory_timebase (s : State) (d : List DirEntry) : (s.setDirectory d).timebase = s.timebase := rfl
@[simp] theorem State.setDirectory_channels (s : State) (d : List DirEntry) : (s.setDirectory d).channels = s.channels := rfl
@[simp] theorem State.setDirectory_patterns (s : State) (d : List DirEntry) : (s.setDirectory d).patterns = s.patterns := rfl
@[simp] theorem State.setDirectory_lanes (s : State) (d : List DirEntry) : (s.setDirectory d).lanes = s.lanes := rfl
@[simp] theorem State.setDirectory_profiles (s : State) (d : List DirEntry) : (s.setDirectory d).profiles = s.profiles := rfl
@[simp] theorem State.setDirectory_directory (s : State) (d : List DirEntry) : (s.setDirectory d).directory = d := rfl
@[simp] theorem State.setDirectory_sweep (s : State) (d : List DirEntry) : (s.setDirectory d).sweep = s.sweep := rfl
@[simp] theorem State.setDirectory_output (s : State) (d : List DirEntry) : (s.setDirectory d).output = s.output := rfl
@[simp] theorem State.setDirectory_link (s : State) (d : List DirEntry) : (s.setDirectory d).link = s.link := rfl
@[simp] theorem State.setDirectory_pending (s : State) (d : List DirEntry) : (s.setDirectory d).pending = s.pending := rfl
@[simp] theorem State.setDirectory_lane (s : State) (d : List DirEntry) (k : Fin 12) : (s.setDirectory d).lane k = s.lane k := rfl
@[simp] theorem State.setDirectory_chan (s : State) (d : List DirEntry) (k : Fin 6) : (s.setDirectory d).chan k = s.chan k := rfl
@[simp] theorem State.setDirectory_prof (s : State) (d : List DirEntry) (k : Fin 384) : (s.setDirectory d).prof k = s.prof k := rfl
@[simp] theorem State.setDirectory_queue (s : State) (d : List DirEntry) (k : Fin 6) : (s.setDirectory d).queue k = s.queue k := rfl
@[simp] theorem State.setDirectory_counter (s : State) (d : List DirEntry) : (s.setDirectory d).counter = s.counter := rfl

/-! ### `setPatterns` -/

@[simp] theorem State.setPatterns_resetHeld (s : State) (v : Vector (List Quadrant) 8) : (s.setPatterns v).resetHeld = s.resetHeld := rfl
@[simp] theorem State.setPatterns_timebase (s : State) (v : Vector (List Quadrant) 8) : (s.setPatterns v).timebase = s.timebase := rfl
@[simp] theorem State.setPatterns_channels (s : State) (v : Vector (List Quadrant) 8) : (s.setPatterns v).channels = s.channels := rfl
@[simp] theorem State.setPatterns_patterns (s : State) (v : Vector (List Quadrant) 8) : (s.setPatterns v).patterns = v := rfl
@[simp] theorem State.setPatterns_lanes (s : State) (v : Vector (List Quadrant) 8) : (s.setPatterns v).lanes = s.lanes := rfl
@[simp] theorem State.setPatterns_profiles (s : State) (v : Vector (List Quadrant) 8) : (s.setPatterns v).profiles = s.profiles := rfl
@[simp] theorem State.setPatterns_directory (s : State) (v : Vector (List Quadrant) 8) : (s.setPatterns v).directory = s.directory := rfl
@[simp] theorem State.setPatterns_sweep (s : State) (v : Vector (List Quadrant) 8) : (s.setPatterns v).sweep = s.sweep := rfl
@[simp] theorem State.setPatterns_output (s : State) (v : Vector (List Quadrant) 8) : (s.setPatterns v).output = s.output := rfl
@[simp] theorem State.setPatterns_link (s : State) (v : Vector (List Quadrant) 8) : (s.setPatterns v).link = s.link := rfl
@[simp] theorem State.setPatterns_pending (s : State) (v : Vector (List Quadrant) 8) : (s.setPatterns v).pending = s.pending := rfl
@[simp] theorem State.setPatterns_lane (s : State) (v : Vector (List Quadrant) 8) (k : Fin 12) : (s.setPatterns v).lane k = s.lane k := rfl
@[simp] theorem State.setPatterns_chan (s : State) (v : Vector (List Quadrant) 8) (k : Fin 6) : (s.setPatterns v).chan k = s.chan k := rfl
@[simp] theorem State.setPatterns_prof (s : State) (v : Vector (List Quadrant) 8) (k : Fin 384) : (s.setPatterns v).prof k = s.prof k := rfl
@[simp] theorem State.setPatterns_queue (s : State) (v : Vector (List Quadrant) 8) (k : Fin 6) : (s.setPatterns v).queue k = s.queue k := rfl
@[simp] theorem State.setPatterns_counter (s : State) (v : Vector (List Quadrant) 8) : (s.setPatterns v).counter = s.counter := rfl

/-! ### `setQueue` -/

@[simp] theorem State.setQueue_resetHeld (s : State) (ch : Fin 6) (q : List QueuedGrant) : (s.setQueue ch q).resetHeld = s.resetHeld := rfl
@[simp] theorem State.setQueue_timebase (s : State) (ch : Fin 6) (q : List QueuedGrant) : (s.setQueue ch q).timebase = s.timebase := rfl
@[simp] theorem State.setQueue_patterns (s : State) (ch : Fin 6) (q : List QueuedGrant) : (s.setQueue ch q).patterns = s.patterns := rfl
@[simp] theorem State.setQueue_lanes (s : State) (ch : Fin 6) (q : List QueuedGrant) : (s.setQueue ch q).lanes = s.lanes := rfl
@[simp] theorem State.setQueue_profiles (s : State) (ch : Fin 6) (q : List QueuedGrant) : (s.setQueue ch q).profiles = s.profiles := rfl
@[simp] theorem State.setQueue_directory (s : State) (ch : Fin 6) (q : List QueuedGrant) : (s.setQueue ch q).directory = s.directory := rfl
@[simp] theorem State.setQueue_sweep (s : State) (ch : Fin 6) (q : List QueuedGrant) : (s.setQueue ch q).sweep = s.sweep := rfl
@[simp] theorem State.setQueue_output (s : State) (ch : Fin 6) (q : List QueuedGrant) : (s.setQueue ch q).output = s.output := rfl
@[simp] theorem State.setQueue_link (s : State) (ch : Fin 6) (q : List QueuedGrant) : (s.setQueue ch q).link = s.link := rfl
@[simp] theorem State.setQueue_pending (s : State) (ch : Fin 6) (q : List QueuedGrant) : (s.setQueue ch q).pending = s.pending := rfl
@[simp] theorem State.setQueue_lane (s : State) (ch : Fin 6) (q : List QueuedGrant) (k : Fin 12) : (s.setQueue ch q).lane k = s.lane k := rfl
@[simp] theorem State.setQueue_prof (s : State) (ch : Fin 6) (q : List QueuedGrant) (k : Fin 384) : (s.setQueue ch q).prof k = s.prof k := rfl
@[simp] theorem State.setQueue_counter (s : State) (ch : Fin 6) (q : List QueuedGrant) : (s.setQueue ch q).counter = s.counter := rfl

/-! ### `setChanState` -/

@[simp] theorem State.setChanState_resetHeld (s : State) (ch : Fin 6) (x : ChannelState) : (s.setChanState ch x).resetHeld = s.resetHeld := rfl
@[simp] theorem State.setChanState_timebase (s : State) (ch : Fin 6) (x : ChannelState) : (s.setChanState ch x).timebase = s.timebase := rfl
@[simp] theorem State.setChanState_patterns (s : State) (ch : Fin 6) (x : ChannelState) : (s.setChanState ch x).patterns = s.patterns := rfl
@[simp] theorem State.setChanState_lanes (s : State) (ch : Fin 6) (x : ChannelState) : (s.setChanState ch x).lanes = s.lanes := rfl
@[simp] theorem State.setChanState_profiles (s : State) (ch : Fin 6) (x : ChannelState) : (s.setChanState ch x).profiles = s.profiles := rfl
@[simp] theorem State.setChanState_directory (s : State) (ch : Fin 6) (x : ChannelState) : (s.setChanState ch x).directory = s.directory := rfl
@[simp] theorem State.setChanState_sweep (s : State) (ch : Fin 6) (x : ChannelState) : (s.setChanState ch x).sweep = s.sweep := rfl
@[simp] theorem State.setChanState_output (s : State) (ch : Fin 6) (x : ChannelState) : (s.setChanState ch x).output = s.output := rfl
@[simp] theorem State.setChanState_link (s : State) (ch : Fin 6) (x : ChannelState) : (s.setChanState ch x).link = s.link := rfl
@[simp] theorem State.setChanState_pending (s : State) (ch : Fin 6) (x : ChannelState) : (s.setChanState ch x).pending = s.pending := rfl
@[simp] theorem State.setChanState_lane (s : State) (ch : Fin 6) (x : ChannelState) (k : Fin 12) : (s.setChanState ch x).lane k = s.lane k := rfl
@[simp] theorem State.setChanState_prof (s : State) (ch : Fin 6) (x : ChannelState) (k : Fin 384) : (s.setChanState ch x).prof k = s.prof k := rfl
@[simp] theorem State.setChanState_counter (s : State) (ch : Fin 6) (x : ChannelState) : (s.setChanState ch x).counter = s.counter := rfl

/-! ### `emitRecord` -/

@[simp] theorem State.emitRecord_resetHeld (s : State) (r : BurstRecord) : (s.emitRecord r).resetHeld = s.resetHeld := by simp only [State.emitRecord, State.setOutput_resetHeld]
@[simp] theorem State.emitRecord_timebase (s : State) (r : BurstRecord) : (s.emitRecord r).timebase = s.timebase := by simp only [State.emitRecord, State.setOutput_timebase]
@[simp] theorem State.emitRecord_channels (s : State) (r : BurstRecord) : (s.emitRecord r).channels = s.channels := by simp only [State.emitRecord, State.setOutput_channels]
@[simp] theorem State.emitRecord_patterns (s : State) (r : BurstRecord) : (s.emitRecord r).patterns = s.patterns := by simp only [State.emitRecord, State.setOutput_patterns]
@[simp] theorem State.emitRecord_lanes (s : State) (r : BurstRecord) : (s.emitRecord r).lanes = s.lanes := by simp only [State.emitRecord, State.setOutput_lanes]
@[simp] theorem State.emitRecord_profiles (s : State) (r : BurstRecord) : (s.emitRecord r).profiles = s.profiles := by simp only [State.emitRecord, State.setOutput_profiles]
@[simp] theorem State.emitRecord_directory (s : State) (r : BurstRecord) : (s.emitRecord r).directory = s.directory := by simp only [State.emitRecord, State.setOutput_directory]
@[simp] theorem State.emitRecord_sweep (s : State) (r : BurstRecord) : (s.emitRecord r).sweep = s.sweep := by simp only [State.emitRecord, State.setOutput_sweep]
@[simp] theorem State.emitRecord_link (s : State) (r : BurstRecord) : (s.emitRecord r).link = s.link := by simp only [State.emitRecord, State.setOutput_link]
@[simp] theorem State.emitRecord_pending (s : State) (r : BurstRecord) : (s.emitRecord r).pending = s.pending := by simp only [State.emitRecord, State.setOutput_pending]
@[simp] theorem State.emitRecord_lane (s : State) (r : BurstRecord) (k : Fin 12) : (s.emitRecord r).lane k = s.lane k := by simp only [State.emitRecord, State.setOutput_lane]
@[simp] theorem State.emitRecord_chan (s : State) (r : BurstRecord) (k : Fin 6) : (s.emitRecord r).chan k = s.chan k := by simp only [State.emitRecord, State.setOutput_chan]
@[simp] theorem State.emitRecord_prof (s : State) (r : BurstRecord) (k : Fin 384) : (s.emitRecord r).prof k = s.prof k := by simp only [State.emitRecord, State.setOutput_prof]
@[simp] theorem State.emitRecord_queue (s : State) (r : BurstRecord) (k : Fin 6) : (s.emitRecord r).queue k = s.queue k := by simp only [State.emitRecord, State.setOutput_queue]
@[simp] theorem State.emitRecord_counter (s : State) (r : BurstRecord) : (s.emitRecord r).counter = s.counter := by simp only [State.emitRecord, State.setOutput_counter]

/-! ### `respond` -/

@[simp] theorem State.respond_resetHeld (s : State) (m : Message) (st : Status) (fs : List Byte) : (s.respond m st fs).resetHeld = s.resetHeld := by simp only [State.respond, State.setOutput_resetHeld]
@[simp] theorem State.respond_timebase (s : State) (m : Message) (st : Status) (fs : List Byte) : (s.respond m st fs).timebase = s.timebase := by simp only [State.respond, State.setOutput_timebase]
@[simp] theorem State.respond_channels (s : State) (m : Message) (st : Status) (fs : List Byte) : (s.respond m st fs).channels = s.channels := by simp only [State.respond, State.setOutput_channels]
@[simp] theorem State.respond_patterns (s : State) (m : Message) (st : Status) (fs : List Byte) : (s.respond m st fs).patterns = s.patterns := by simp only [State.respond, State.setOutput_patterns]
@[simp] theorem State.respond_lanes (s : State) (m : Message) (st : Status) (fs : List Byte) : (s.respond m st fs).lanes = s.lanes := by simp only [State.respond, State.setOutput_lanes]
@[simp] theorem State.respond_profiles (s : State) (m : Message) (st : Status) (fs : List Byte) : (s.respond m st fs).profiles = s.profiles := by simp only [State.respond, State.setOutput_profiles]
@[simp] theorem State.respond_directory (s : State) (m : Message) (st : Status) (fs : List Byte) : (s.respond m st fs).directory = s.directory := by simp only [State.respond, State.setOutput_directory]
@[simp] theorem State.respond_sweep (s : State) (m : Message) (st : Status) (fs : List Byte) : (s.respond m st fs).sweep = s.sweep := by simp only [State.respond, State.setOutput_sweep]
@[simp] theorem State.respond_link (s : State) (m : Message) (st : Status) (fs : List Byte) : (s.respond m st fs).link = s.link := by simp only [State.respond, State.setOutput_link]
@[simp] theorem State.respond_pending (s : State) (m : Message) (st : Status) (fs : List Byte) : (s.respond m st fs).pending = s.pending := by simp only [State.respond, State.setOutput_pending]
@[simp] theorem State.respond_lane (s : State) (m : Message) (st : Status) (fs : List Byte) (k : Fin 12) : (s.respond m st fs).lane k = s.lane k := by simp only [State.respond, State.setOutput_lane]
@[simp] theorem State.respond_chan (s : State) (m : Message) (st : Status) (fs : List Byte) (k : Fin 6) : (s.respond m st fs).chan k = s.chan k := by simp only [State.respond, State.setOutput_chan]
@[simp] theorem State.respond_prof (s : State) (m : Message) (st : Status) (fs : List Byte) (k : Fin 384) : (s.respond m st fs).prof k = s.prof k := by simp only [State.respond, State.setOutput_prof]
@[simp] theorem State.respond_queue (s : State) (m : Message) (st : Status) (fs : List Byte) (k : Fin 6) : (s.respond m st fs).queue k = s.queue k := by simp only [State.respond, State.setOutput_queue]
@[simp] theorem State.respond_counter (s : State) (m : Message) (st : Status) (fs : List Byte) : (s.respond m st fs).counter = s.counter := by simp only [State.respond, State.setOutput_counter]

/-! ### `notify` -/

@[simp] theorem State.notify_resetHeld (s : State) (e : NoticeEvent) : (s.notify e).resetHeld = s.resetHeld := by simp only [State.notify, State.setOutput_resetHeld]
@[simp] theorem State.notify_timebase (s : State) (e : NoticeEvent) : (s.notify e).timebase = s.timebase := by simp only [State.notify, State.setOutput_timebase]
@[simp] theorem State.notify_channels (s : State) (e : NoticeEvent) : (s.notify e).channels = s.channels := by simp only [State.notify, State.setOutput_channels]
@[simp] theorem State.notify_patterns (s : State) (e : NoticeEvent) : (s.notify e).patterns = s.patterns := by simp only [State.notify, State.setOutput_patterns]
@[simp] theorem State.notify_lanes (s : State) (e : NoticeEvent) : (s.notify e).lanes = s.lanes := by simp only [State.notify, State.setOutput_lanes]
@[simp] theorem State.notify_profiles (s : State) (e : NoticeEvent) : (s.notify e).profiles = s.profiles := by simp only [State.notify, State.setOutput_profiles]
@[simp] theorem State.notify_directory (s : State) (e : NoticeEvent) : (s.notify e).directory = s.directory := by simp only [State.notify, State.setOutput_directory]
@[simp] theorem State.notify_sweep (s : State) (e : NoticeEvent) : (s.notify e).sweep = s.sweep := by simp only [State.notify, State.setOutput_sweep]
@[simp] theorem State.notify_link (s : State) (e : NoticeEvent) : (s.notify e).link = s.link := by simp only [State.notify, State.setOutput_link]
@[simp] theorem State.notify_pending (s : State) (e : NoticeEvent) : (s.notify e).pending = s.pending := by simp only [State.notify, State.setOutput_pending]
@[simp] theorem State.notify_lane (s : State) (e : NoticeEvent) (k : Fin 12) : (s.notify e).lane k = s.lane k := by simp only [State.notify, State.setOutput_lane]
@[simp] theorem State.notify_chan (s : State) (e : NoticeEvent) (k : Fin 6) : (s.notify e).chan k = s.chan k := by simp only [State.notify, State.setOutput_chan]
@[simp] theorem State.notify_prof (s : State) (e : NoticeEvent) (k : Fin 384) : (s.notify e).prof k = s.prof k := by simp only [State.notify, State.setOutput_prof]
@[simp] theorem State.notify_queue (s : State) (e : NoticeEvent) (k : Fin 6) : (s.notify e).queue k = s.queue k := by simp only [State.notify, State.setOutput_queue]
@[simp] theorem State.notify_counter (s : State) (e : NoticeEvent) : (s.notify e).counter = s.counter := by simp only [State.notify, State.setOutput_counter]

/-! ### `setSync` -/

@[simp] theorem State.setSync_resetHeld (s : State) (x : SyncState) : (s.setSync x).resetHeld = s.resetHeld := rfl
@[simp] theorem State.setSync_timebase (s : State) (x : SyncState) : (s.setSync x).timebase = { s.timebase with sync := x } := rfl
@[simp] theorem State.setSync_channels (s : State) (x : SyncState) : (s.setSync x).channels = s.channels := rfl
@[simp] theorem State.setSync_patterns (s : State) (x : SyncState) : (s.setSync x).patterns = s.patterns := rfl
@[simp] theorem State.setSync_lanes (s : State) (x : SyncState) : (s.setSync x).lanes = s.lanes := rfl
@[simp] theorem State.setSync_profiles (s : State) (x : SyncState) : (s.setSync x).profiles = s.profiles := rfl
@[simp] theorem State.setSync_directory (s : State) (x : SyncState) : (s.setSync x).directory = s.directory := rfl
@[simp] theorem State.setSync_sweep (s : State) (x : SyncState) : (s.setSync x).sweep = s.sweep := rfl
@[simp] theorem State.setSync_output (s : State) (x : SyncState) : (s.setSync x).output = s.output := rfl
@[simp] theorem State.setSync_link (s : State) (x : SyncState) : (s.setSync x).link = s.link := rfl
@[simp] theorem State.setSync_pending (s : State) (x : SyncState) : (s.setSync x).pending = s.pending := rfl
@[simp] theorem State.setSync_lane (s : State) (x : SyncState) (k : Fin 12) : (s.setSync x).lane k = s.lane k := rfl
@[simp] theorem State.setSync_chan (s : State) (x : SyncState) (k : Fin 6) : (s.setSync x).chan k = s.chan k := rfl
@[simp] theorem State.setSync_prof (s : State) (x : SyncState) (k : Fin 384) : (s.setSync x).prof k = s.prof k := rfl
@[simp] theorem State.setSync_queue (s : State) (x : SyncState) (k : Fin 6) : (s.setSync x).queue k = s.queue k := rfl

/-! ### `setLastMark` -/

@[simp] theorem State.setLastMark_resetHeld (s : State) (t : Tick) : (s.setLastMark t).resetHeld = s.resetHeld := rfl
@[simp] theorem State.setLastMark_timebase (s : State) (t : Tick) : (s.setLastMark t).timebase = { s.timebase with lastMark := t } := rfl
@[simp] theorem State.setLastMark_channels (s : State) (t : Tick) : (s.setLastMark t).channels = s.channels := rfl
@[simp] theorem State.setLastMark_patterns (s : State) (t : Tick) : (s.setLastMark t).patterns = s.patterns := rfl
@[simp] theorem State.setLastMark_lanes (s : State) (t : Tick) : (s.setLastMark t).lanes = s.lanes := rfl
@[simp] theorem State.setLastMark_profiles (s : State) (t : Tick) : (s.setLastMark t).profiles = s.profiles := rfl
@[simp] theorem State.setLastMark_directory (s : State) (t : Tick) : (s.setLastMark t).directory = s.directory := rfl
@[simp] theorem State.setLastMark_sweep (s : State) (t : Tick) : (s.setLastMark t).sweep = s.sweep := rfl
@[simp] theorem State.setLastMark_output (s : State) (t : Tick) : (s.setLastMark t).output = s.output := rfl
@[simp] theorem State.setLastMark_link (s : State) (t : Tick) : (s.setLastMark t).link = s.link := rfl
@[simp] theorem State.setLastMark_pending (s : State) (t : Tick) : (s.setLastMark t).pending = s.pending := rfl
@[simp] theorem State.setLastMark_lane (s : State) (t : Tick) (k : Fin 12) : (s.setLastMark t).lane k = s.lane k := rfl
@[simp] theorem State.setLastMark_chan (s : State) (t : Tick) (k : Fin 6) : (s.setLastMark t).chan k = s.chan k := rfl
@[simp] theorem State.setLastMark_prof (s : State) (t : Tick) (k : Fin 384) : (s.setLastMark t).prof k = s.prof k := rfl
@[simp] theorem State.setLastMark_queue (s : State) (t : Tick) (k : Fin 6) : (s.setLastMark t).queue k = s.queue k := rfl

/-! ### `setTransfer` -/

@[simp] theorem State.setTransfer_resetHeld (s : State) (t : Option Transfer) : (s.setTransfer t).resetHeld = s.resetHeld := rfl
@[simp] theorem State.setTransfer_timebase (s : State) (t : Option Transfer) : (s.setTransfer t).timebase = s.timebase := rfl
@[simp] theorem State.setTransfer_channels (s : State) (t : Option Transfer) : (s.setTransfer t).channels = s.channels := rfl
@[simp] theorem State.setTransfer_patterns (s : State) (t : Option Transfer) : (s.setTransfer t).patterns = s.patterns := rfl
@[simp] theorem State.setTransfer_lanes (s : State) (t : Option Transfer) : (s.setTransfer t).lanes = s.lanes := rfl
@[simp] theorem State.setTransfer_profiles (s : State) (t : Option Transfer) : (s.setTransfer t).profiles = s.profiles := rfl
@[simp] theorem State.setTransfer_directory (s : State) (t : Option Transfer) : (s.setTransfer t).directory = s.directory := rfl
@[simp] theorem State.setTransfer_sweep (s : State) (t : Option Transfer) : (s.setTransfer t).sweep = s.sweep := rfl
@[simp] theorem State.setTransfer_output (s : State) (t : Option Transfer) : (s.setTransfer t).output = s.output := rfl
@[simp] theorem State.setTransfer_link (s : State) (t : Option Transfer) : (s.setTransfer t).link = { s.link with transfer := t } := rfl
@[simp] theorem State.setTransfer_pending (s : State) (t : Option Transfer) : (s.setTransfer t).pending = s.pending := rfl
@[simp] theorem State.setTransfer_lane (s : State) (t : Option Transfer) (k : Fin 12) : (s.setTransfer t).lane k = s.lane k := rfl
@[simp] theorem State.setTransfer_chan (s : State) (t : Option Transfer) (k : Fin 6) : (s.setTransfer t).chan k = s.chan k := rfl
@[simp] theorem State.setTransfer_prof (s : State) (t : Option Transfer) (k : Fin 384) : (s.setTransfer t).prof k = s.prof k := rfl
@[simp] theorem State.setTransfer_queue (s : State) (t : Option Transfer) (k : Fin 6) : (s.setTransfer t).queue k = s.queue k := rfl
@[simp] theorem State.setTransfer_counter (s : State) (t : Option Transfer) : (s.setTransfer t).counter = s.counter := rfl

/-! ### `setCounter` -/

@[simp] theorem State.setCounter_resetHeld (s : State) (t : Tick) : (s.setCounter t).resetHeld = s.resetHeld := rfl
@[simp] theorem State.setCounter_patterns (s : State) (t : Tick) : (s.setCounter t).patterns = s.patterns := rfl
@[simp] theorem State.setCounter_profiles (s : State) (t : Tick) : (s.setCounter t).profiles = s.profiles := rfl
@[simp] theorem State.setCounter_directory (s : State) (t : Tick) : (s.setCounter t).directory = s.directory := rfl
@[simp] theorem State.setCounter_output (s : State) (t : Tick) : (s.setCounter t).output = s.output := rfl
@[simp] theorem State.setCounter_link (s : State) (t : Tick) : (s.setCounter t).link = s.link := rfl
@[simp] theorem State.setCounter_pending (s : State) (t : Tick) : (s.setCounter t).pending = s.pending := rfl
@[simp] theorem State.setCounter_timebase (s : State) (t : Tick) : (s.setCounter t).timebase = { s.timebase with counter := t } := rfl
@[simp] theorem State.setCounter_channels (s : State) (t : Tick) :
    (s.setCounter t).channels = s.channels.map fun c => c.mapQueue (·.noteArm t) := rfl
@[simp] theorem State.setCounter_lanes (s : State) (t : Tick) : (s.setCounter t).lanes = s.lanes.map (·.noteTicks t) := rfl
@[simp] theorem State.setCounter_sweep (s : State) (t : Tick) : (s.setCounter t).sweep = s.sweep.noteVisit t := rfl
@[simp] theorem State.setCounter_prof (s : State) (t : Tick) (k : Fin 384) : (s.setCounter t).prof k = s.prof k := rfl
@[simp] theorem State.setCounter_counter (s : State) (t : Tick) : (s.setCounter t).counter = t := rfl

/-! ### `stepCounter` -/

@[simp] theorem State.stepCounter_resetHeld (s : State) (t : Tick) : (s.stepCounter t).resetHeld = s.resetHeld := rfl
@[simp] theorem State.stepCounter_patterns (s : State) (t : Tick) : (s.stepCounter t).patterns = s.patterns := rfl
@[simp] theorem State.stepCounter_profiles (s : State) (t : Tick) : (s.stepCounter t).profiles = s.profiles := rfl
@[simp] theorem State.stepCounter_directory (s : State) (t : Tick) : (s.stepCounter t).directory = s.directory := rfl
@[simp] theorem State.stepCounter_output (s : State) (t : Tick) : (s.stepCounter t).output = s.output := rfl
@[simp] theorem State.stepCounter_link (s : State) (t : Tick) : (s.stepCounter t).link = s.link := rfl
@[simp] theorem State.stepCounter_pending (s : State) (t : Tick) : (s.stepCounter t).pending = s.pending := rfl
@[simp] theorem State.stepCounter_timebase (s : State) (t : Tick) : (s.stepCounter t).timebase = { s.timebase with counter := t } := rfl
@[simp] theorem State.stepCounter_lanes (s : State) (t : Tick) : (s.stepCounter t).lanes = s.lanes.map (·.noteTicks t) := rfl
@[simp] theorem State.stepCounter_sweep (s : State) (t : Tick) : (s.stepCounter t).sweep = s.sweep.noteVisit t := rfl
@[simp] theorem State.stepCounter_prof (s : State) (t : Tick) (k : Fin 384) : (s.stepCounter t).prof k = s.prof k := rfl
@[simp] theorem State.stepCounter_counter (s : State) (t : Tick) : (s.stepCounter t).counter = t := rfl

/-! ### `hold` -/

@[simp] theorem State.hold_resetHeld (s : State) : s.hold.resetHeld = s.resetHeld := rfl
@[simp] theorem State.hold_timebase (s : State) : s.hold.timebase = s.timebase := rfl
@[simp] theorem State.hold_channels (s : State) : s.hold.channels = s.channels := rfl
@[simp] theorem State.hold_patterns (s : State) : s.hold.patterns = s.patterns := rfl
@[simp] theorem State.hold_lanes (s : State) : s.hold.lanes = s.lanes := rfl
@[simp] theorem State.hold_profiles (s : State) : s.hold.profiles = s.profiles := rfl
@[simp] theorem State.hold_directory (s : State) : s.hold.directory = s.directory := rfl
@[simp] theorem State.hold_sweep (s : State) : s.hold.sweep = s.sweep := rfl
@[simp] theorem State.hold_output (s : State) : s.hold.output = s.output := rfl
@[simp] theorem State.hold_pending (s : State) : s.hold.pending = s.pending := rfl
@[simp] theorem State.hold_link (s : State) : s.hold.link = { s.link with holding := true } := rfl

/-! ### Reading what was written -/

@[simp] theorem State.setLane_lane (s : State) (l : Fin 12) (x : Lane) (k : Fin 12) :
    (s.setLane l x).lane k = if l = k then x else s.lane k := by
  simp [State.setLane, State.lane, Vector.getElem_set, Fin.ext_iff]

@[simp] theorem State.setChan_chan (s : State) (ch : Fin 6) (c : Channel) (k : Fin 6) :
    (s.setChan ch c).chan k = if ch = k then c else s.chan k := by
  simp [State.setChan, State.chan, Vector.getElem_set, Fin.ext_iff]

@[simp] theorem State.setProf_prof (s : State) (p : Fin 384) (x : Profile) (k : Fin 384) :
    (s.setProf p x).prof k = if p = k then x else s.prof k := by
  simp [State.setProf, State.prof, Vector.getElem_set, Fin.ext_iff]

theorem State.setChan_queue (s : State) (ch : Fin 6) (c : Channel) (k : Fin 6) :
    (s.setChan ch c).queue k = if ch = k then c.queue else s.queue k := by
  simp only [State.queue, State.setChan_chan]; split <;> rfl

@[simp] theorem State.setQueue_queue (s : State) (ch : Fin 6) (q : List QueuedGrant) (k : Fin 6) :
    (s.setQueue ch q).queue k = if ch = k then q else s.queue k := by
  rw [State.setQueue, State.setChan_queue]

theorem State.setQueue_chan (s : State) (ch : Fin 6) (q : List QueuedGrant) (k : Fin 6) :
    (s.setQueue ch q).chan k = if ch = k then { s.chan ch with queue := q } else s.chan k := by
  rw [State.setQueue, State.setChan_chan]

@[simp] theorem State.setQueue_chan_state (s : State) (ch : Fin 6) (q : List QueuedGrant) (k : Fin 6) :
    ((s.setQueue ch q).chan k).state = (s.chan k).state := by
  rw [State.setQueue_chan]; split <;> simp_all

@[simp] theorem State.setChanState_queue (s : State) (ch : Fin 6) (x : ChannelState) (k : Fin 6) :
    (s.setChanState ch x).queue k = s.queue k := by
  rw [State.setChanState, State.setChan_queue]; split <;> simp_all [State.queue]

@[simp] theorem State.setChanState_chan_state (s : State) (ch : Fin 6) (x : ChannelState) (k : Fin 6) :
    ((s.setChanState ch x).chan k).state = if ch = k then x else (s.chan k).state := by
  rw [State.setChanState, State.setChan_chan]; split <;> rfl

@[simp] theorem State.setCounter_lane (s : State) (t : Tick) (l : Fin 12) :
    (s.setCounter t).lane l = (s.lane l).noteTicks t := by
  simp [State.setCounter, State.lane]

@[simp] theorem State.stepCounter_lane (s : State) (t : Tick) (l : Fin 12) :
    (s.stepCounter t).lane l = (s.lane l).noteTicks t := s.setCounter_lane t l

@[simp] theorem State.setCounter_chan (s : State) (t : Tick) (k : Fin 6) :
    (s.setCounter t).chan k = (s.chan k).mapQueue (·.noteArm t) := by
  simp [State.setCounter, State.chan]

@[simp] theorem QueuedGrant.judgeArm_noteArm (g : QueuedGrant) (t : Tick) : (g.noteArm t).judgeArm t = g.judgeArm t := rfl

@[simp] theorem State.stepCounter_chan (s : State) (t : Tick) (k : Fin 6) :
    (s.stepCounter t).chan k = (s.chan k).mapQueue (·.judgeArm t) := by
  simp [State.stepCounter, State.setCounter, State.chan, Channel.mapQueue, Function.comp_def]

@[simp] theorem Channel.mapQueue_state (c : Channel) (f : QueuedGrant → QueuedGrant) : (c.mapQueue f).state = c.state := rfl

@[simp] theorem Channel.mapQueue_queue (c : Channel) (f : QueuedGrant → QueuedGrant) : (c.mapQueue f).queue = c.queue.map f :=
  rfl

@[simp] theorem State.setCounter_queue (s : State) (t : Tick) (k : Fin 6) :
    (s.setCounter t).queue k = (s.queue k).map (·.noteArm t) := by
  simp [State.queue]

@[simp] theorem State.stepCounter_queue (s : State) (t : Tick) (k : Fin 6) :
    (s.stepCounter t).queue k = (s.queue k).map (·.judgeArm t) := by
  simp [State.queue]

@[simp] theorem Lane.noteTicks_state (x : Lane) (t : Tick) : (x.noteTicks t).state = x.state := by
  unfold Lane.noteTicks; split <;> rfl

@[simp] theorem Lane.noteTicks_channel (x : Lane) (t : Tick) : (x.noteTicks t).channel = x.channel := by
  unfold Lane.noteTicks; split <;> rfl

@[simp] theorem Lane.noteTicks_role (x : Lane) (t : Tick) : (x.noteTicks t).role = x.role := by
  unfold Lane.noteTicks; split <;> rfl

end Sys2Proof.Machine
end

