-- ==== Sys2Proof/Laws/Output.lean ====
section
/-! SUPPORT. What the output queue's operations do: the lengths of items, the placing of records, responses and notices,
and the bytes that a frame takes away. -/

namespace Sys2Proof

@[simp] theorem beBytes_length (n v : Nat) : (beBytes n v).length = n := by
  induction n <;> simp_all [beBytes]

@[simp] theorem beSigned_length (n : Nat) (v : Int) : (beSigned n v).length = n := by simp [beSigned]

@[simp] theorem bytes32_length (w : BitVec 32) : (bytes32 w).length = 4 := rfl

theorem writeMessage_length (m : Message) : (writeMessage m).length = m.body.length + 4 := by
  simp [writeMessage]; omega

namespace Machine

/-! ### Lengths of items (section 9.4) -/

/-- An item's bytes are as many as its size says. -/
theorem OutItem.bytes_length (x : OutItem) : x.bytes.length = x.size := by
  unfold OutItem.bytes OutItem.size
  exact writeMessage_length _

@[simp] theorem BurstRecord.fixedBytes_length (r : BurstRecord) : r.fixedBytes.length = 50 := by
  unfold BurstRecord.fixedBytes
  simp only [List.length_append, beBytes_length, beSigned_length, bytes32_length]

theorem OutItem.response_size (r : Response) : (OutItem.response r).size = r.fields.length + 6 := by
  simp [OutItem.size, OutItem.message, Response.body]; omega

theorem NoticeEvent.bytes_length (e : NoticeEvent) : e.bytes.length = 6 := by
  cases e <;> simp [NoticeEvent.bytes] <;> (rename_i k; cases k <;> simp [keyBytes])

theorem OutItem.notice_size (n : Notice) : (OutItem.notice n).size = 16 := by
  simp [OutItem.size, OutItem.message, Notice.body, NoticeEvent.bytes_length]

@[simp] theorem OutItem.record_size_markTruncated (r : BurstRecord) (b : Bool) :
    (OutItem.record (r.markTruncated b)).size = (OutItem.record r).size := by
  simp [OutItem.size, OutItem.message, BurstRecord.body, BurstRecord.markTruncated, BurstRecord.listBytes]

/-! ### Placing -/

@[simp] theorem OutputQueue.append_items (o : OutputQueue) (x : OutItem) : (o.append x).items = o.items ++ [x] := rfl

theorem OutputQueue.append_fill (o : OutputQueue) (x : OutItem) : (o.append x).fill = o.fill + x.size := by
  simp [OutputQueue.fill]

theorem OutputQueue.append_notices (o : OutputQueue) (x : OutItem) :
    (o.append x).notices = o.notices + if x.isNotice then 1 else 0 := by
  simp [OutputQueue.notices, List.countP_append, List.countP_cons]

/-- A placed record leaves the fill as it was or at most at the record limit (R178). -/
theorem OutputQueue.placeRecord_fill (o : OutputQueue) (r : BurstRecord) :
    (o.placeRecord r).fill ≤ max o.fill Config.recordLimit := by
  unfold OutputQueue.placeRecord
  split
  · have h := o.append_fill (.record (r.markTruncated o.dropMark))
    simp only [OutItem.record_size_markTruncated] at h
    simp only [OutputQueue.fill] at *; omega
  · split
    · have h := o.append_fill (.record (r.withoutList.markTruncated true))
      simp only [OutItem.record_size_markTruncated] at h
      simp only [OutputQueue.fill] at *; omega
    · simp only [OutputQueue.fill]; omega

theorem OutputQueue.placeRecord_notices (o : OutputQueue) (r : BurstRecord) : (o.placeRecord r).notices = o.notices := by
  unfold OutputQueue.placeRecord
  split
  · simp [OutItem.isNotice, OutputQueue.notices]
  · split
    · simp [OutItem.isNotice, OutputQueue.notices]
    · rfl

/-- A record handed over joins at the tail, or nothing does (R177, R178). -/
theorem OutputQueue.placeRecord_items (o : OutputQueue) (r : BurstRecord) :
    (o.placeRecord r).items = o.items ∨ ∃ x, (o.placeRecord r).items = o.items ++ [.record x] := by
  unfold OutputQueue.placeRecord
  split
  · exact .inr ⟨_, rfl⟩
  · split
    · exact .inr ⟨_, rfl⟩
    · exact .inl rfl

theorem OutputQueue.placeRecord_bounded (o : OutputQueue) (r : BurstRecord) (h : o.Bounded) : (o.placeRecord r).Bounded := by
  refine ⟨?_, ?_⟩
  · have := o.placeRecord_fill r; have := h.1; simp only [Config.recordLimit, Config.outputCapacity] at *; omega
  · rw [o.placeRecord_notices r]; exact h.2

theorem OutputQueue.placeResponse_bounded (o : OutputQueue) (r : Response) (h : o.Bounded) :
    (o.placeResponse r).Bounded := by
  unfold OutputQueue.placeResponse
  split
  · refine ⟨by rw [o.append_fill]; assumption, ?_⟩
    rw [o.append_notices]; simpa [OutItem.isNotice] using h.2
  · exact h

theorem OutputQueue.placeNotice_bounded (o : OutputQueue) (t : Tick) (e : NoticeEvent) (h : o.Bounded) :
    (o.placeNotice t e).Bounded := by
  unfold OutputQueue.placeNotice
  dsimp only
  split
  · rename_i hc
    have hf := o.append_fill (.notice { event := e, lost := o.noticeLoss, counter := t })
    have hn := o.append_notices (.notice { event := e, lost := o.noticeLoss, counter := t })
    simp only [OutItem.isNotice, if_true] at hn
    constructor
    · simp only [OutputQueue.fill] at *; omega
    · simp only [OutputQueue.notices] at *; omega
  · exact h

/-- A notice handed over joins at the tail, or nothing does (R181). -/
theorem OutputQueue.placeNotice_items (o : OutputQueue) (t : Tick) (e : NoticeEvent) :
    (o.placeNotice t e).items = o.items ∨ ∃ n, (o.placeNotice t e).items = o.items ++ [.notice n] := by
  unfold OutputQueue.placeNotice
  dsimp only
  split
  · exact .inr ⟨_, rfl⟩
  · exact .inl rfl

/-- A response whose length fits is placed at the tail (R179). -/
theorem State.respond_eq_answered (s : State) (m : Message) (st : Status) (fs : List Byte)
    (h : fs.length + 6 ≤ s.output.room) : s.respond m st fs = s.answered m st fs := by
  have hs := OutItem.response_size { tag := m.tag, kind := m.kind, status := st, fields := fs }
  have : s.output.fill + (OutItem.response { tag := m.tag, kind := m.kind, status := st, fields := fs }).size ≤
      Config.outputCapacity := by
    rw [hs]; simp only [OutputQueue.room] at h; simp only at *; omega
  simp only [State.respond, OutputQueue.placeResponse, if_pos this]
  rfl

/-! ### Sending (R188) -/

/-- After `n` more bytes the unsent bytes are the old ones without their first `n`; the first item left is not sent to its
end. -/
theorem dropSent_spec : ∀ (l : List OutItem) (sent n : Nat),
    ((dropSent l sent n).1.flatMap OutItem.bytes).drop (dropSent l sent n).2 = (l.flatMap OutItem.bytes).drop (sent + n) ∧
    (dropSent l sent n).1 <:+ l ∧
    (∀ x xs, (dropSent l sent n).1 = x :: xs → (dropSent l sent n).2 < x.size) ∧
    ((dropSent l sent n).1 = [] → (dropSent l sent n).2 = 0)
  | [], sent, n => by simp [dropSent]
  | x :: xs, sent, n => by
    unfold dropSent
    split
    · rename_i h
      obtain ⟨h1, h2, h3, h4⟩ := dropSent_spec xs 0 (sent + n - x.size)
      refine ⟨?_, h2.trans (List.suffix_cons _ _), h3, h4⟩
      have hl : x.bytes.length = x.size := x.bytes_length
      rw [h1, List.flatMap_cons, List.drop_append, List.drop_of_length_le (l := x.bytes) (by omega), List.nil_append, hl]
      congr 1; omega
    · rename_i h
      refine ⟨rfl, List.suffix_rfl, ?_, by simp⟩
      intro y ys e
      simp only [List.cons.injEq] at e
      rw [← e.1]; omega

end Machine

end Sys2Proof
end

