-- ==== Sys2Proof/Laws/Requests.lean ====
section
/-! SUPPORT. What the taking of a message does: a ready request reaches its owner, a malformed one is answered, and one
that cannot be taken waits in the inbound buffer. -/

namespace Sys2Proof.Machine

/-- The message at the head waits in the buffer. -/
theorem NodeLink.waits_of_head {n : NodeLink} {m : Message} (h : n.head = some m) : n.waits m = true := by
  unfold NodeLink.head at h
  unfold NodeLink.waits
  split at h
  · cases h
  · rename_i f fs e
    have : m ∈ f.messages := List.mem_of_mem_head? h
    simp [e, this]

/-- What an offer can do: a message that waits already changes nothing, one without room is discarded, any other joins
the buffer in a frame of its own. -/
theorem NodeLink.offer_cases (n : NodeLink) (m : Message) :
    (n.waits m = true ∧ n.offer m = n) ∨
    (n.waits m = false ∧ n.inbound ≠ [] ∧ Config.inboundCapacity < n.held + framePayload m ∧ n.offer m = n) ∨
    (n.waits m = false ∧ (n.inbound = [] ∨ n.held + framePayload m ≤ Config.inboundCapacity) ∧
      n.offer m = { n with inbound := n.inbound ++ [⟨framePayload m, [m]⟩] }) := by
  unfold NodeLink.offer
  cases hw : n.waits m
  · by_cases hf : n.inbound ≠ [] ∧ Config.inboundCapacity < n.held + framePayload m
    · right; left; simp [hf]
    · right; right
      refine ⟨rfl, ?_, by simp [hf]⟩
      by_cases e : n.inbound = []
      · exact .inl e
      · exact .inr (not_lt.1 fun h => hf ⟨e, h⟩)
  · left; simp

theorem NodeLink.offer_waiting {n : NodeLink} {m : Message} (h : n.waits m = true) : n.offer m = n := by
  simp [NodeLink.offer, h]

theorem NodeLink.offer_empty {n : NodeLink} (m : Message) (h : n.inbound = []) :
    n.offer m = { n with inbound := [⟨framePayload m, [m]⟩] } := by
  simp [NodeLink.offer, NodeLink.waits, h]

/-- A message at the head, offered and taken, leaves the inbound buffer without it; one that arrives at an empty buffer
leaves it empty. -/
theorem NodeLink.offer_dropHead (n : NodeLink) (m : Message) (h : n.inbound = [] ∨ n.head = some m) :
    (n.offer m).dropHead = n.dropHead := by
  rcases h with h | h
  · rw [NodeLink.offer_empty m h]; simp [NodeLink.dropHead, withoutHead, h]
  · rw [NodeLink.offer_waiting (NodeLink.waits_of_head h)]

theorem NodeLink.offer_head (n : NodeLink) (m : Message) (h : n.inbound = [] ∨ n.head = some m) :
    (n.offer m).head = some m := by
  rcases h with h | h
  · rw [NodeLink.offer_empty m h]; rfl
  · rw [NodeLink.offer_waiting (NodeLink.waits_of_head h)]; exact h

/-- Behind another message an offered one is not at the head. -/
theorem NodeLink.offer_behind (n : NodeLink) (m : Message) (h : n.inbound ≠ []) : (n.offer m).head = n.head := by
  rcases n.offer_cases m with ⟨_, e⟩ | ⟨_, _, _, e⟩ | ⟨_, _, e⟩
  · rw [e]
  · rw [e]
  · rw [e]
    cases hi : n.inbound with
    | nil => exact absurd hi h
    | cons f fs => simp [NodeLink.head, hi]

@[simp] theorem NodeLink.offer_transfer (n : NodeLink) (m : Message) : (n.offer m).transfer = n.transfer := by
  unfold NodeLink.offer; split <;> rfl

@[simp] theorem NodeLink.offer_pointer (n : NodeLink) (m : Message) : (n.offer m).pointer = n.pointer := by
  unfold NodeLink.offer; split <;> rfl

@[simp] theorem NodeLink.dropHead_transfer (n : NodeLink) : n.dropHead.transfer = n.transfer := rfl

@[simp] theorem NodeLink.dropHead_pointer (n : NodeLink) : n.dropHead.pointer = n.pointer := rfl

@[simp] theorem NodeLink.dropHead_holding (n : NodeLink) : n.dropHead.holding = false := rfl

/-- A message that is not next, or commanded during a PUT or GET, waits. -/
theorem State.passOn_waits {α : Type} (s : State) (m : Message) (form : Option α) (bad : Status) (room : Nat)
    (act : State → α → State) (h : s.link.transfer ≠ none ∨ s.link.head ≠ some m) :
    s.passOn m form bad room act = s := by
  unfold State.passOn
  rw [if_pos]
  rcases h with h | h
  · left; simpa [Option.isSome_iff_ne_none] using h
  · exact .inr h

/-- A message that is next, while no PUT or GET is under way. -/
theorem State.passOn_next {α : Type} (s : State) (m : Message) (form : Option α) (bad : Status) (room : Nat)
    (act : State → α → State) (ht : s.link.transfer = none) (hh : s.link.inbound = [] ∨ s.link.head = some m) :
    (s.setLink (s.link.offer m)).passOn m form bad room act =
      match form with
      | none => if formResponseRoom ≤ s.output.room then s.taken.respond m bad [] else (s.setLink (s.link.offer m)).hold
      | some x => if room ≤ s.output.room then act s.taken x else (s.setLink (s.link.offer m)).hold := by
  have e : (s.setLink (s.link.offer m)).setLink ((s.setLink (s.link.offer m)).link.dropHead) = s.taken := by
    simp only [State.setLink_link, NodeLink.offer_dropHead _ _ hh]; rfl
  unfold State.passOn
  rw [if_neg]
  · simp only [e]; rfl
  · simp [ht, NodeLink.offer_head _ _ hh]

/-- A ready request reaches its owner. -/
theorem State.passOn_ready {α : Type} {s : State} {m : Message} {form : Option α} {bad : Status} {room : Nat}
    {act : State → α → State} {x : α} (h : s.Ready m room) (hf : form = some x) :
    (s.setLink (s.link.offer m)).passOn m form bad room act = act s.taken x := by
  rw [State.passOn_next _ _ _ _ _ _ h.idle h.atHead, hf]
  simp [h.fits]

@[simp] theorem State.unlessReset_running (s : State) (f : State → State) (h : s.resetHeld = false) :
    s.unlessReset f = f s := by simp [State.unlessReset, h]

@[simp] theorem State.unlessReset_held (s : State) (f : State → State) (h : s.resetHeld = true) :
    s.unlessReset f = s := by simp [State.unlessReset, h]

/-- A ready request of a known kind takes its effect. -/
theorem takeRequest_ready {α : Type} {m : Message} {form : State → Option α} {bad : Status} {room : Nat}
    {act : State → α → State} {s : State} {x : α} {take : State → Message → State} (hb : m.body.length ≤ Config.messageBodyMax)
    (ht : ∀ t : State, take t m = t.passOn m (form t) bad room act) (h : s.Ready m room)
    (hf : form (s.setLink (s.link.offer m)) = some x) : takeRequest m take s = .next (act s.taken x) := by
  unfold takeRequest
  rw [if_pos hb, State.unlessReset_running _ _ h.running, ht, State.passOn_ready h hf]

/-- A message without its kind's form is answered so (R186). -/
theorem takeRequest_malformed {α : Type} {m : Message} {form : State → Option α} {bad : Status} {room : Nat}
    {act : State → α → State} {s : State} {take : State → Message → State} (hb : m.body.length ≤ Config.messageBodyMax)
    (ht : ∀ t : State, take t m = t.passOn m (form t) bad room act) (h : s.Ready m formResponseRoom)
    (hf : form (s.setLink (s.link.offer m)) = none) : takeRequest m take s = .next (s.taken.answered m bad []) := by
  unfold takeRequest
  rw [if_pos hb, State.unlessReset_running _ _ h.running, ht, State.passOn_next _ _ _ _ _ _ h.idle h.atHead, hf]
  simp only [if_pos h.fits]
  rw [State.respond_eq_answered]
  exact h.fits

/-- A request that fits a frame always completes. -/
theorem takeRequest_completes {m : Message} {take : State → Message → State} (s : State)
    (hb : m.body.length ≤ Config.messageBodyMax) :
    takeRequest m take s = .next (s.unlessReset fun s => take (s.setLink (s.link.offer m)) m) := if_pos hb

/-! ### Fields of a state whose head message has been taken, or that has been answered -/

@[simp] theorem State.taken_link (s : State) : s.taken.link = s.link.dropHead := rfl
@[simp] theorem State.taken_timebase (s : State) : s.taken.timebase = s.timebase := rfl
@[simp] theorem State.taken_channels (s : State) : s.taken.channels = s.channels := rfl
@[simp] theorem State.taken_patterns (s : State) : s.taken.patterns = s.patterns := rfl
@[simp] theorem State.taken_lanes (s : State) : s.taken.lanes = s.lanes := rfl
@[simp] theorem State.taken_profiles (s : State) : s.taken.profiles = s.profiles := rfl
@[simp] theorem State.taken_directory (s : State) : s.taken.directory = s.directory := rfl
@[simp] theorem State.taken_sweep (s : State) : s.taken.sweep = s.sweep := rfl
@[simp] theorem State.taken_output (s : State) : s.taken.output = s.output := rfl
@[simp] theorem State.taken_pending (s : State) : s.taken.pending = s.pending := rfl
@[simp] theorem State.taken_resetHeld (s : State) : s.taken.resetHeld = s.resetHeld := rfl
@[simp] theorem State.taken_lane (s : State) (l : Fin 12) : s.taken.lane l = s.lane l := rfl
@[simp] theorem State.taken_chan (s : State) (ch : Fin 6) : s.taken.chan ch = s.chan ch := rfl
@[simp] theorem State.taken_prof (s : State) (p : Fin 384) : s.taken.prof p = s.prof p := rfl
@[simp] theorem State.taken_queue (s : State) (ch : Fin 6) : s.taken.queue ch = s.queue ch := rfl
@[simp] theorem State.taken_counter (s : State) : s.taken.counter = s.counter := rfl
@[simp] theorem State.taken_serves (s : State) (l : Fin 12) (ch : Fin 6) : s.taken.serves l ch = s.serves l ch := rfl
@[simp] theorem State.taken_lanesOf (s : State) (ch : Fin 6) : s.taken.lanesOf ch = s.lanesOf ch := rfl
@[simp] theorem State.taken_lookup (s : State) (k : Key) : s.taken.lookup k = s.lookup k := rfl

end Sys2Proof.Machine
end

