-- ==== Sys2Proof/Laws/Codec.lean ====
section
/-! SUPPORT. Fields written and read back (R197), one lemma for each kind of field. -/

namespace Sys2Proof

theorem beValue_append (a b : List Byte) : beValue (a ++ b) = beValue a * 256 ^ b.length + beValue b := by
  unfold beValue
  rw [List.foldl_append]
  generalize List.foldl (fun a b => a * 256 + BitVec.toNat b) 0 a = x
  induction b generalizing x with
  | nil => simp
  | cons y ys ih =>
    simp only [List.foldl_cons, List.length_cons]
    rw [ih (x * 256 + y.toNat), ih (0 * 256 + y.toNat)]
    ring

/-- A number of `n` bytes reads back (R197). -/
theorem beValue_beBytes (n v : Nat) : beValue (beBytes n v) = v % 256 ^ n := by
  induction n with
  | zero => simp [beBytes, beValue, Nat.mod_one]
  | succ n ih =>
    have e : beBytes (n + 1) v = [BitVec.ofNat 8 (v / 256 ^ n)] ++ beBytes n v := rfl
    rw [e, beValue_append, beBytes_length, ih]
    simp only [beValue, List.foldl_cons, List.foldl_nil, BitVec.toNat_ofNat]
    have hm : v % 256 ^ (n + 1) = v % 256 ^ n + 256 ^ n * (v / 256 ^ n % 256) := by rw [Nat.pow_succ, Nat.mod_mul]
    rw [hm, Nat.zero_mul, Nat.zero_add, Nat.add_comm, Nat.mul_comm]

/-- Two bytes of a number read back. -/
theorem value16_bytes (v : Nat) (h : v < 65536) : value16 (BitVec.ofNat 8 (v / 256)) (BitVec.ofNat 8 v) = v := by
  simp only [value16, BitVec.toNat_append, BitVec.toNat_ofNat]
  rw [← Nat.shiftLeft_add_eq_or_of_lt (by omega), Nat.shiftLeft_eq]
  omega

theorem beBytes_two (v : Nat) : beBytes 2 v = [BitVec.ofNat 8 (v / 256), BitVec.ofNat 8 v] := by
  simp [beBytes]

theorem beBytes_one (v : Nat) : beBytes 1 v = [BitVec.ofNat 8 v] := by simp [beBytes]

theorem ofNat8_toNat (v : Nat) (h : v < 256) : (BitVec.ofNat 8 v).toNat = v := by simp; omega

/-- A 32-bit word reads back. -/
theorem word32_bytes32 (w : BitVec 32) :
    word32 (w.extractLsb' 24 8) (w.extractLsb' 16 8) (w.extractLsb' 8 8) (w.extractLsb' 0 8) = w := by
  apply BitVec.eq_of_getLsbD_eq
  intro i hi
  simp only [word32, BitVec.getLsbD_append, BitVec.getLsbD_extractLsb']
  grind

/-- Two bytes of a 16-bit word read back. -/
theorem append_bytes16 (w : BitVec 16) : w.extractLsb' 8 8 ++ w.extractLsb' 0 8 = w := by
  apply BitVec.eq_of_getLsbD_eq
  intro i hi
  simp only [BitVec.getLsbD_append, BitVec.getLsbD_extractLsb']
  grind

@[simp] theorem readBool_boolByte (b : Bool) : readBool (boolByte b) = some b := by cases b <;> rfl

@[simp] theorem readModulation_code (m : Modulation) : readModulation (BitVec.ofNat 8 m.code) = some m := by
  cases m <;> rfl

@[simp] theorem readRate_code (r : SymbolRate) : readRate (BitVec.ofNat 8 r.code) = some r := by cases r <;> rfl

@[simp] theorem readMinislot_spm (m : MinislotSize) : readMinislot (BitVec.ofNat 8 m.spm) = some m := by
  cases m <;> rfl

@[simp] theorem readDisposition_code (d : Disposition) : readDisposition (BitVec.ofNat 8 d.code) = some d := by
  cases d <;> rfl

@[simp] theorem readTable_code (t : TableId) : readTable (BitVec.ofNat 8 t.code) = some t := by cases t <;> rfl

/-- The inbound kinds and 0 are the kinds that a command of an unknown kind cannot carry (R184, R186). -/
theorem kindIsKnown_iff (k : Byte) : kindIsKnown k = true ↔ k = 0#8 ∨ inboundKinds.contains k = true := by
  revert k; decide +kernel

end Sys2Proof
end

