-- ==== Sys2Proof/Laws/Commands.lean ====
section
/-! SUPPORT. Each request once it is taken: a message with the form of its kind, ready, reaches the operation of its owner
(R185, R186). -/

namespace Sys2Proof.Machine

theorem exec_timeMark_ready {s : State} {tag : Byte} {body : List Byte} {T : Tick} (hb : body.length ≤ 1494)
    (h : s.Ready ⟨kindTimeMark, tag, body⟩ 0) (hf : readTimeMark body = some T) :
    exec (.timeMark tag body) s = .next (s.taken.takeMark T) := by
  exact takeRequest_ready (take := State.takeTimeMark) (form := fun _ => readTimeMark body) (x := T) hb (fun _ => rfl) h hf

theorem exec_nodeSet_ready {s : State} {tag : Byte} {body : List Byte} {n : NodeSettings} (hb : body.length ≤ 1494)
    (h : s.Ready ⟨kindNodeSet, tag, body⟩ 6) (hf : readNodeSet body = some n) :
    exec (.nodeSet tag body) s = .next (s.taken.nodeSet ⟨kindNodeSet, tag, body⟩ n) := by
  exact takeRequest_ready (take := State.takeNodeSet) (form := fun _ => readNodeSet body) (x := n) hb (fun _ => rfl) h hf

theorem exec_resetNode_ready {s : State} {tag : Byte} {body : List Byte} {u : Unit} (hb : body.length ≤ 1494)
    (h : s.Ready ⟨kindResetNode, tag, body⟩ 6) (hf : readEmpty body = some u) :
    exec (.resetNode tag body) s = .next ((s.taken.respond ⟨kindResetNode, tag, body⟩ .ok []).nodeReset) := by
  exact takeRequest_ready (take := State.takeResetNode) (form := fun _ => readEmpty body) (x := u) hb (fun _ => rfl) h hf

theorem exec_channelSet_ready {s : State} {tag : Byte} {body : List Byte} {c : ChannelSettings} (hb : body.length ≤ 1494)
    (h : s.Ready ⟨kindChannelSet, tag, body⟩ 6) (hf : readChannelSet body = some c) :
    exec (.channelSet tag body) s = .next (s.taken.onChannel ⟨kindChannelSet, tag, body⟩ c.channel [] fun t ch => t.channelSet ⟨kindChannelSet, tag, body⟩ c ch) := by
  exact takeRequest_ready (take := State.takeChannelSet) (form := fun _ => readChannelSet body)
    (x := c) hb (fun _ => rfl) h hf

theorem exec_channelStart_ready {s : State} {tag : Byte} {body : List Byte} {n : Nat} (hb : body.length ≤ 1494)
    (h : s.Ready ⟨kindChannelStart, tag, body⟩ 6) (hf : readChannel body = some n) :
    exec (.channelStart tag body) s = .next (s.taken.onChannel ⟨kindChannelStart, tag, body⟩ n [] fun t ch => t.channelStart ⟨kindChannelStart, tag, body⟩ ch) := by
  exact takeRequest_ready (take := State.takeChannelStart) (form := fun _ => readChannel body) (x := n) hb (fun _ => rfl) h hf

theorem exec_channelStop_ready {s : State} {tag : Byte} {body : List Byte} {n : Nat} (hb : body.length ≤ 1494)
    (h : s.Ready ⟨kindChannelStop, tag, body⟩ 6) (hf : readChannel body = some n) :
    exec (.channelStop tag body) s = .next (s.taken.onChannel ⟨kindChannelStop, tag, body⟩ n [] fun t ch => t.channelStop ⟨kindChannelStop, tag, body⟩ ch) := by
  exact takeRequest_ready (take := State.takeChannelStop) (form := fun _ => readChannel body) (x := n) hb (fun _ => rfl) h hf

theorem exec_channelHalt_ready {s : State} {tag : Byte} {body : List Byte} {n : Nat} (hb : body.length ≤ 1494)
    (h : s.Ready ⟨kindChannelHalt, tag, body⟩ 7) (hf : readChannel body = some n) :
    exec (.channelHalt tag body) s = .next (s.taken.onChannel ⟨kindChannelHalt, tag, body⟩ n (beBytes 1 0) fun t ch => t.channelHalt ⟨kindChannelHalt, tag, body⟩ ch) := by
  exact takeRequest_ready (take := State.takeChannelHalt) (form := fun _ => readChannel body) (x := n) hb (fun _ => rfl) h hf

theorem exec_schedule_ready {s : State} {tag : Byte} {body : List Byte} {r : Nat × List Grant} (hb : body.length ≤ 1494)
    (h : s.Ready ⟨kindSchedule, tag, body⟩ 8) (hf : readSchedule body = some r) :
    exec (.schedule tag body) s = .next (s.taken.onChannel ⟨kindSchedule, tag, body⟩ r.1 (beBytes 1 0 ++ beBytes 1 0) fun t ch => t.schedule ⟨kindSchedule, tag, body⟩ r.2 ch) := by
  exact takeRequest_ready (take := State.takeSchedule) (form := fun _ => readSchedule body) (x := r) hb (fun _ => rfl) h hf

theorem exec_profileBind_ready {s : State} {tag : Byte} {body : List Byte} {r : BindRequest} (hb : body.length ≤ 1494)
    (h : s.Ready ⟨kindProfileBind, tag, body⟩ 6) (hf : readProfileBind body = some r) :
    exec (.profileBind tag body) s = .next (s.taken.bind ⟨kindProfileBind, tag, body⟩ r) := by
  exact takeRequest_ready (take := State.takeProfileBind) (form := fun _ => readProfileBind body)
    (x := r) hb (fun _ => rfl) h hf

theorem exec_profileUnbind_ready {s : State} {tag : Byte} {body : List Byte} {r : Nat × Nat} (hb : body.length ≤ 1494)
    (h : s.Ready ⟨kindProfileUnbind, tag, body⟩ 6) (hf : readProfileUnbind body = some r) :
    exec (.profileUnbind tag body) s = .next (s.taken.unbind ⟨kindProfileUnbind, tag, body⟩ r.1 r.2) := by
  exact takeRequest_ready (take := State.takeProfileUnbind) (form := fun _ => readProfileUnbind body)
    (x := r) hb (fun _ => rfl) h hf

theorem exec_profileRevert_ready {s : State} {tag : Byte} {body : List Byte} {p : Nat} (hb : body.length ≤ 1494)
    (h : s.Ready ⟨kindProfileRevert, tag, body⟩ 6) (hf : readProfile body = some p) :
    exec (.profileRevert tag body) s = .next (s.taken.onBoundProfile ⟨kindProfileRevert, tag, body⟩ p fun q => q.markOverridden.revert) := by
  exact takeRequest_ready (take := State.takeProfileRevert) (form := fun _ => readProfile body)
    (x := p) hb (fun _ => rfl) h hf

theorem exec_profileClear_ready {s : State} {tag : Byte} {body : List Byte} {p : Nat} (hb : body.length ≤ 1494)
    (h : s.Ready ⟨kindProfileClear, tag, body⟩ 6) (hf : readProfile body = some p) :
    exec (.profileClear tag body) s = .next (s.taken.onBoundProfile ⟨kindProfileClear, tag, body⟩ p Profile.cleared) := by
  exact takeRequest_ready (take := State.takeProfileClear) (form := fun _ => readProfile body) (x := p) hb (fun _ => rfl) h hf

theorem exec_tableSeek_ready {s : State} {tag : Byte} {body : List Byte} {r : TableId × Nat × Nat} (hb : body.length ≤ 1494)
    (h : s.Ready ⟨kindTableSeek, tag, body⟩ 6) (hf : readTableSeek body = some r) :
    exec (.tableSeek tag body) s = .next (s.taken.seek ⟨kindTableSeek, tag, body⟩ r.1 r.2.1 r.2.2) := by
  exact takeRequest_ready (take := State.takeTableSeek) (form := fun _ => readTableSeek body) (x := r) hb (fun _ => rfl) h hf

theorem exec_tablePut_ready {s : State} {tag : Byte} {body : List Byte} {items : List PutItem} (hb : body.length ≤ 1494)
    (h : s.Ready ⟨kindTablePut, tag, body⟩ 11) (hf : readTablePut s.link.pointer.table body = some items) :
    exec (.tablePut tag body) s = .next (s.taken.put tag items) := by
  exact takeRequest_ready (take := State.takeTablePut) (form := fun t => readTablePut t.link.pointer.table body)
    (x := items) hb (fun _ => rfl) h (by simpa using hf)

theorem exec_tableGet_ready {s : State} {tag : Byte} {body : List Byte} {n : Nat} (hb : body.length ≤ 1494)
    (h : s.Ready ⟨kindTableGet, tag, body⟩ 843) (hf : readTableGet body = some n) :
    exec (.tableGet tag body) s = .next (s.taken.get tag n) := by
  exact takeRequest_ready (take := State.takeTableGet) (form := fun _ => readTableGet body) (x := n) hb (fun _ => rfl) h hf

theorem exec_directoryGet_ready {s : State} {tag : Byte} {body : List Byte} {r : Nat × Fin 6} (hb : body.length ≤ 1494)
    (h : s.Ready ⟨kindDirectoryGet, tag, body⟩ 776) (hf : readDirectoryGet body = some r) :
    exec (.directoryGet tag body) s = .next (s.taken.respond ⟨kindDirectoryGet, tag, body⟩ .ok (s.taken.directoryFields ⟨r.1, r.2⟩)) := by
  exact takeRequest_ready (take := State.takeDirectoryGet) (form := fun _ => readDirectoryGet body)
    (x := r) hb (fun _ => rfl) h hf

theorem exec_statusGet_ready {s : State} {tag : Byte} {body : List Byte} {u : Unit} (hb : body.length ≤ 1494)
    (h : s.Ready ⟨kindStatusGet, tag, body⟩ 44) (hf : readEmpty body = some u) :
    exec (.statusGet tag body) s = .next (s.taken.respond ⟨kindStatusGet, tag, body⟩ .ok s.taken.statusFields) := by
  exact takeRequest_ready (take := State.takeStatusGet) (form := fun _ => readEmpty body) (x := u)
    (act := fun s _ => s.respond ⟨kindStatusGet, tag, body⟩ .ok s.statusFields) hb (fun _ => rfl) h hf

/-- The order test, said once: against every predecessor the start tick is at its end tick or fewer than 2^31 ticks beyond
it (R42, log entry 38). -/
theorem State.inOrder_iff {s : State} {ch : Fin 6} {q : QueuedGrant} : s.inOrder ch q = true ↔
    ∀ p r, s.predecessor ch = some (p, r) → (q.startTick - p.endTick).toNat < 2 ^ 31 := by
  unfold State.inOrder
  split <;> rename_i h
  · simp [h]
  · simp only [h, decide_eq_true_eq, Option.some.injEq, Prod.mk.injEq]
    exact ⟨fun hq _ _ e => e.1 ▸ hq, fun hq => hq _ _ ⟨rfl, rfl⟩⟩

/-- The order test beside the comparison of R2: they differ at the distance 2^31 alone. -/
theorem lt_half_iff_not_ahead (a b : Tick) :
    (b - a).toNat < 2 ^ 31 ↔ ahead a b = false ∧ b - a ≠ BitVec.ofNat 32 (2 ^ 31) := by
  have ha := a.isLt
  have hb := b.isLt
  simp only [ahead, decide_eq_false_iff_not, ne_eq, ← BitVec.toNat_inj, BitVec.toNat_sub, BitVec.toNat_ofNat]
  omega

end Sys2Proof.Machine
end

