-- ==== Sys2Proof/Laws/Work.lean ====
section
/-! SUPPORT. What the reception does to the state, said once: every operation of the lanes, profiles and queues is a
sequence of elementary acts, each of which the relation below allows. Frames and invariants follow by one induction over
the sequence. -/

namespace Sys2Proof.Machine

/-! ### Elementary acts -/

/-- One elementary change that the reception makes. -/
inductive Act where
  | lane (l : Fin 12) (x : Lane)
  | prof (p : Fin 384) (x : Profile)
  | record (r : BurstRecord)
  | notice (e : NoticeEvent)
  | queue (ch : Fin 6) (q : List QueuedGrant)
  | ready (ch : Fin 6)

def Act.apply : Act → State → State
  | .lane l x, s => s.setLane l x
  | .prof p x, s => s.setProf p x
  | .record r, s => s.emitRecord r
  | .notice e, s => s.notify e
  | .queue ch q, s => s.setQueue ch q
  | .ready ch, s => s.setChanState ch .ready

/-- Acts, each allowed in the state it meets. -/
inductive Work (A : State → Act → Prop) : State → State → Prop
  | refl (s : State) : Work A s s
  | step {s t : State} (a : Act) : Work A s t → A t a → Work A s (a.apply t)

theorem Work.one {A : State → Act → Prop} {s : State} (a : Act) (h : A s a) : Work A s (a.apply s) :=
  .step a (.refl s) h

theorem Work.setLane {A : State → Act → Prop} {s t : State} {l : Fin 12} {x : Lane} (h : Work A s t)
    (ha : A t (.lane l x)) : Work A s (t.setLane l x) := .step (.lane l x) h ha

theorem Work.setProf {A : State → Act → Prop} {s t : State} {p : Fin 384} {x : Profile} (h : Work A s t)
    (ha : A t (.prof p x)) : Work A s (t.setProf p x) := .step (.prof p x) h ha

theorem Work.emitRecord {A : State → Act → Prop} {s t : State} {r : BurstRecord} (h : Work A s t)
    (ha : A t (.record r)) : Work A s (t.emitRecord r) := .step (.record r) h ha

theorem Work.notify {A : State → Act → Prop} {s t : State} {e : NoticeEvent} (h : Work A s t)
    (ha : A t (.notice e)) : Work A s (t.notify e) := .step (.notice e) h ha

theorem Work.setQueue {A : State → Act → Prop} {s t : State} {ch : Fin 6} {q : List QueuedGrant} (h : Work A s t)
    (ha : A t (.queue ch q)) : Work A s (t.setQueue ch q) := .step (.queue ch q) h ha

theorem Work.setReady {A : State → Act → Prop} {s t : State} {ch : Fin 6} (h : Work A s t)
    (ha : A t (.ready ch)) : Work A s (t.setChanState ch .ready) := .step (.ready ch) h ha

theorem Work.trans {A : State → Act → Prop} {s t u : State} (h : Work A s t) (k : Work A t u) : Work A s u := by
  induction k with
  | refl => exact h
  | step a _ ha ih => exact .step a ih ha

theorem Work.mono {A B : State → Act → Prop} (hAB : ∀ s a, A s a → B s a) {s t : State} (h : Work A s t) :
    Work B s t := by
  induction h with
  | refl => exact .refl _
  | step a _ ha ih => exact .step a ih (hAB _ _ ha)

/-- A property that every allowed act keeps is kept by the work. -/
theorem Work.keeps {A : State → Act → Prop} {P : State → Prop} (hP : ∀ s a, A s a → P s → P (a.apply s)) {s t : State}
    (h : Work A s t) (hs : P s) : P t := by
  induction h with
  | refl => exact hs
  | step a _ ha ih => exact hP _ _ ha ih

/-! ### What is allowed -/

/-- The lane serves the same grant of the same channel in the same state, with the same measurement. -/
def Lane.SameService (x y : Lane) : Prop :=
  x.state = y.state ∧ x.grant = y.grant ∧ x.channel = y.channel ∧ x.measurement = y.measurement ∧ x.cls = y.cls

theorem Lane.SameService.rfl (x : Lane) : x.SameService x := ⟨Eq.refl _, Eq.refl _, Eq.refl _, Eq.refl _, Eq.refl _⟩

theorem Lane.SameService.trans {x y z : Lane} (h : x.SameService y) (k : y.SameService z) : x.SameService z := by
  unfold Lane.SameService at *
  grind

/-- Changes of roles and of profiles alone: what the release of a role makes. -/
def Act.Releases (s : State) : Act → Prop
  | .lane l x => x.SameService (s.lane l)
  | .prof _ _ => True
  | .record _ | .notice _ | .queue _ _ | .ready _ => False

/-- What a judgement and a checkout make: also a notice. -/
def Act.Judges (s : State) : Act → Prop
  | .lane l x => x.SameService (s.lane l)
  | .prof _ _ | .notice _ => True
  | .record _ | .queue _ _ | .ready _ => False

/-- What the aborts of the lanes `ls` make when no grant falls back: records, FREE lanes, released roles, and a STOPPING
channel left empty READY. -/
def Act.Aborts (ls : List (Fin 12)) (s : State) : Act → Prop
  | .lane l x => x.SameService (s.lane l) ∨ (l ∈ ls ∧ x = Lane.idle)
  | .prof _ _ | .record _ => True
  | .ready ch => (s.chan ch).state = .stopping ∧ s.queue ch = [] ∧ s.lanesOf ch = [] ∧ ∃ l ∈ ls, (s.lane l).state = .free
  | .notice _ | .queue _ _ => False

/-- What the whole reception makes: a lane goes on with its channel, becomes FREE, or joins a channel that is RUNNING or
STOPPING (as far as `q` asks for it); a queue loses its head or a link mark; a STOPPING channel left empty becomes
READY. -/
def Act.Receives (q : Prop) (s : State) : Act → Prop
  | .lane l x => x.state = .free ∨ x.SameService (s.lane l) ∨
      ((s.lane l).state ≠ .free ∧ x.channel = (s.lane l).channel) ∨ (q → (s.chan x.channel).state.active = true)
  | .prof _ _ | .record _ | .notice _ => True
  | .queue ch r => ∃ g gs, s.queue ch = g :: gs ∧ (r = gs ∨ r = { g with link := false } :: gs)
  | .ready ch => (s.chan ch).state = .stopping ∧ s.queue ch = [] ∧ s.lanesOf ch = []

theorem Act.Releases.judges {s : State} {a : Act} (h : a.Releases s) : a.Judges s := by
  cases a <;> simp_all [Act.Releases, Act.Judges]

theorem Act.Judges.receives {q : Prop} {s : State} {a : Act} (h : a.Judges s) : a.Receives q s := by
  cases a <;> simp_all [Act.Judges, Act.Receives]

theorem Act.Releases.aborts {ls : List (Fin 12)} {s : State} {a : Act} (h : a.Releases s) : a.Aborts ls s := by
  cases a <;> simp_all [Act.Releases, Act.Aborts]

theorem Act.Aborts.receives {ls : List (Fin 12)} {s : State} {a : Act} {q : Prop} (h : a.Aborts ls s) : a.Receives q s := by
  cases a with
  | lane l x =>
    rcases h with h | ⟨_, h⟩
    · exact .inr (.inl h)
    · exact .inl (by rw [h]; rfl)
  | ready ch => exact ⟨h.1, h.2.1, h.2.2.1⟩
  | _ => simp_all [Act.Aborts, Act.Receives]

/-! ### The frame of the reception -/

/-- Everything the reception never touches. -/
structure Frame (s t : State) : Prop where
  pending : t.pending = s.pending
  resetHeld : t.resetHeld = s.resetHeld
  timebase : t.timebase = s.timebase
  patterns : t.patterns = s.patterns
  directory : t.directory = s.directory
  sweep : t.sweep = s.sweep
  link : t.link = s.link
  chan : ∀ ch, t.chan ch = { s.chan ch with state := (t.chan ch).state, queue := t.queue ch }

theorem Frame.rfl (s : State) : Frame s s :=
  ⟨Eq.refl _, Eq.refl _, Eq.refl _, Eq.refl _, Eq.refl _, Eq.refl _, Eq.refl _, fun _ => Eq.refl _⟩

theorem Frame.trans {s t u : State} (h : Frame s t) (k : Frame t u) : Frame s u where
  pending := k.pending.trans h.pending
  resetHeld := k.resetHeld.trans h.resetHeld
  timebase := k.timebase.trans h.timebase
  patterns := k.patterns.trans h.patterns
  directory := k.directory.trans h.directory
  sweep := k.sweep.trans h.sweep
  link := k.link.trans h.link
  chan ch := by rw [k.chan ch, h.chan ch]

theorem Act.apply_frame (a : Act) (s : State) : Frame s (a.apply s) := by
  cases a with
  | queue c q =>
    refine ⟨rfl, rfl, rfl, rfl, rfl, rfl, rfl, fun ch => ?_⟩
    simp only [Act.apply, State.setQueue_chan, State.setQueue_queue]
    split
    · rename_i e; subst e; rfl
    · rfl
  | ready c =>
    refine ⟨rfl, rfl, rfl, rfl, rfl, rfl, rfl, fun ch => ?_⟩
    simp only [Act.apply, State.setChanState_queue, State.setChanState_chan_state]
    rw [State.setChanState, State.setChan_chan]
    split <;> simp_all [State.queue]
  | record r =>
    exact ⟨State.emitRecord_pending _ _, State.emitRecord_resetHeld _ _, State.emitRecord_timebase _ _, State.emitRecord_patterns _ _,
      State.emitRecord_directory _ _, State.emitRecord_sweep _ _, State.emitRecord_link _ _, fun ch => by simp [Act.apply, State.queue]⟩
  | notice r =>
    exact ⟨State.notify_pending _ _, State.notify_resetHeld _ _, State.notify_timebase _ _, State.notify_patterns _ _,
      State.notify_directory _ _, State.notify_sweep _ _, State.notify_link _ _, fun ch => by simp [Act.apply, State.queue]⟩
  | lane l x => exact ⟨rfl, rfl, rfl, rfl, rfl, rfl, rfl, fun ch => rfl⟩
  | prof p x => exact ⟨rfl, rfl, rfl, rfl, rfl, rfl, rfl, fun ch => rfl⟩

/-- The reception keeps to its frame, whatever acts are allowed. -/
theorem Work.frame {A : State → Act → Prop} {s t : State} (h : Work A s t) : Frame s t := by
  induction h with
  | refl => exact Frame.rfl _
  | step a _ _ ih => exact ih.trans (a.apply_frame _)

/-- The reception only adds to the output queue (R177). -/
theorem Act.apply_items (a : Act) (s : State) : s.output.items <+: (a.apply s).output.items := by
  cases a with
  | record r =>
    rcases s.output.placeRecord_items { r with counter := s.counter } with h | ⟨x, h⟩ <;>
      simp [Act.apply, State.emitRecord, h]
  | notice e =>
    rcases s.output.placeNotice_items s.counter e with h | ⟨x, h⟩ <;> simp [Act.apply, State.notify, h]
  | _ => exact List.prefix_rfl

theorem Work.items {A : State → Act → Prop} {s t : State} (h : Work A s t) : s.output.items <+: t.output.items := by
  induction h with
  | refl => exact List.prefix_rfl
  | step a _ _ ih => exact ih.trans (a.apply_items _)

/-- The reception keeps the output queue within its limits. -/
theorem Work.bounded {A : State → Act → Prop} {s t : State} (h : Work A s t) (hs : s.output.Bounded) :
    t.output.Bounded := by
  refine h.keeps (P := fun s => s.output.Bounded) ?_ hs
  intro s a _ hb
  cases a with
  | record r =>
    simp only [Act.apply, State.emitRecord, State.setOutput_output]; exact s.output.placeRecord_bounded _ hb
  | notice e =>
    simp only [Act.apply, State.notify, State.setOutput_output]; exact s.output.placeNotice_bounded _ _ hb
  | lane l x => simp only [Act.apply, State.setLane_output]; exact hb
  | prof p x => simp only [Act.apply, State.setProf_output]; exact hb
  | queue ch q => simp only [Act.apply, State.setQueue_output]; exact hb
  | ready ch => simp only [Act.apply, State.setChanState_output]; exact hb

/-! ### Quiet channels -/

theorem State.serves_eq_false {s : State} {l : Fin 12} {ch : Fin 6} :
    s.serves l ch = false ↔ (s.lane l).state = .free ∨ (s.lane l).channel ≠ ch := by
  simp [State.serves]; tauto

theorem mem_laneIds (l : Fin 12) : l ∈ laneIds := by revert l; decide

theorem State.mem_lanesOf {s : State} {l : Fin 12} {ch : Fin 6} : l ∈ s.lanesOf ch ↔ s.serves l ch = true := by
  simp [State.lanesOf, mem_laneIds]

theorem State.lanesOf_eq_nil {s : State} {ch : Fin 6} : s.lanesOf ch = [] ↔ ∀ l, s.serves l ch = false := by
  simp [State.lanesOf, List.filter_eq_nil_iff, mem_laneIds]

theorem Act.receives_quiet {s : State} {a : Act} (h : a.Receives True s) (hq : s.Quiet) : (a.apply s).Quiet := by
  cases a with
  | lane l x =>
    refine ⟨fun hu ch => hq.unsynced hu ch, fun ch hi => ⟨(hq.inactive ch hi).1, fun k => ?_⟩, hq.depth⟩
    have hk := (hq.inactive ch hi).2 k
    rw [State.serves_eq_false] at hk ⊢
    simp only [Act.apply, State.setLane_lane]
    split
    · rename_i e
      subst e
      rcases h with h | h | ⟨h1, h2⟩ | h
      · exact .inl h
      · rw [h.1, h.2.2.1]; exact hk
      · rw [h2]; exact .inr (hk.resolve_left h1)
      · refine .inr fun e => ?_
        have h := h trivial
        rw [e] at h
        simp only [Act.apply, State.setLane_chan] at hi
        rw [h] at hi; exact absurd hi (by simp)
    · exact hk
  | prof p x => exact ⟨hq.unsynced, hq.inactive, hq.depth⟩
  | record r =>
    exact ⟨by simpa [Act.apply] using hq.unsynced, by simpa [Act.apply, State.serves] using hq.inactive,
      by simpa [Act.apply] using hq.depth⟩
  | notice r =>
    exact ⟨by simpa [Act.apply] using hq.unsynced, by simpa [Act.apply, State.serves] using hq.inactive,
      by simpa [Act.apply] using hq.depth⟩
  | queue c q =>
    obtain ⟨g, gs, e, hc⟩ := h
    refine ⟨fun hu ch => by simpa [Act.apply] using hq.unsynced hu ch, fun ch hi => ?_, fun ch => ?_⟩
    · simp only [Act.apply, State.setQueue_chan_state] at hi
      have := hq.inactive ch hi
      refine ⟨?_, this.2⟩
      simp only [Act.apply, State.setQueue_queue]
      split
      · rename_i ec; subst ec; simp [e] at this
      · exact this.1
    · have := hq.depth ch
      simp only [Act.apply, State.setQueue_queue]
      split
      · rename_i ec; subst ec; rw [e] at this; rcases hc with rfl | rfl
        · simp only [List.length_cons] at this; omega
        · simpa using this
      · exact this
  | ready c =>
    obtain ⟨h1, h2, h3⟩ := h
    refine ⟨fun hu ch => ?_, fun ch hi => ?_, fun ch => by simpa [Act.apply] using hq.depth ch⟩
    · have := hq.unsynced hu ch
      simp only [Act.apply, State.setChanState_chan_state]
      split
      · rfl
      · exact this
    · simp only [Act.apply, State.setChanState_queue]
      by_cases e : c = ch
      · subst e; exact ⟨h2, State.lanesOf_eq_nil.1 h3⟩
      · simp only [Act.apply, State.setChanState_chan_state, if_neg e] at hi
        exact hq.inactive ch hi

/-- The reception keeps channels that are neither RUNNING nor STOPPING quiet. -/
theorem Work.quiet {q : Prop} {s t : State} (h : Work (fun s a => a.Receives q s) s t) (hq : q → s.Quiet) : q → t.Quiet :=
  fun hp => h.keeps (P := State.Quiet)
    (fun _ _ ha hs => Act.receives_quiet (by rw [eq_true hp] at ha; exact ha) hs) (hq hp)

end Sys2Proof.Machine
end

