-- ==== Sys2Proof/Laws/Profiles.lean ====
section
/-! SUPPORT. What the release of a role, a judgement and a checkout can do: roles, vectors and records of lanes change,
and profiles; every lane goes on serving its grant. -/

namespace Sys2Proof.Machine

/-- The acts of a release, of a judgement. -/
abbrev Releasing : State → Act → Prop := fun s a => a.Releases s
abbrev Judging : State → Act → Prop := fun s a => a.Judges s
abbrev Receiving (q : Prop) : State → Act → Prop := fun s a => a.Receives q s
abbrev Aborting (ls : List (Fin 12)) : State → Act → Prop := fun s a => a.Aborts ls s

theorem Lane.withPreload_service (x : Lane) (p : Profile) : (x.withPreload p).SameService x := by
  unfold Lane.withPreload; split <;> exact ⟨rfl, rfl, rfl, rfl, rfl⟩

theorem Lane.asColdGuest_service (x : Lane) (p : Option (Fin 384)) : (x.asColdGuest p).SameService x :=
  ⟨rfl, rfl, rfl, rfl, rfl⟩

theorem Lane.asGuest_service (x : Lane) (i : Fin 384) (p : Profile) : (x.asGuest i p).SameService x :=
  x.withPreload_service p

theorem State.becomeHolder_work (s : State) (l : Fin 12) (p : Fin 384) : Work Releasing s (s.becomeHolder l p) :=
  (((Work.refl s).setLane (x := { (s.lane l).withPreload (s.prof p) with role := .holder p })
    ((s.lane l).withPreload_service (s.prof p))).setProf trivial)

theorem State.retireIfReleased_work (s : State) (p : Fin 384) : Work Releasing s (s.retireIfReleased p) := by
  unfold State.retireIfReleased
  split
  · exact (Work.refl s).setProf trivial
  · exact .refl s

theorem State.resolveClaim_work (s : State) (p : Fin 384) : Work Releasing s (s.resolveClaim p) := by
  unfold State.resolveClaim
  split
  · exact .refl s
  · rename_i m _
    dsimp only
    split
    · exact ((Work.refl s).setProf trivial).setLane (Lane.asColdGuest_service _ _)
    · exact ((Work.refl s).setProf trivial).trans (State.becomeHolder_work _ _ _)

theorem State.releaseHolder_work (s : State) (p : Fin 384) : Work Releasing s (s.releaseHolder p) :=
  (((Work.refl s).setProf trivial).trans (State.resolveClaim_work _ _)).trans (State.retireIfReleased_work _ _)

theorem State.dropClaim_work (s : State) (p : Fin 384) : Work Releasing s (s.dropClaim p) :=
  ((Work.refl s).setProf trivial).trans (State.retireIfReleased_work _ _)

/-- The release of a role changes roles, preloads and profiles alone (R74, R157, R158). -/
theorem State.releaseRole_work (s : State) (r : Role) : Work Releasing s (s.releaseRole r) := by
  unfold State.releaseRole
  split
  · exact s.releaseHolder_work _
  · exact s.dropClaim_work _
  · exact .refl s
  · exact .refl s
  · exact .refl s

theorem Work.judging {s t : State} (h : Work Releasing s t) : Work Judging s t :=
  h.mono fun _ _ => Act.Releases.judges

theorem Work.receiving {q : Prop} {s t : State} (h : Work Judging s t) : Work (Receiving q) s t :=
  h.mono fun _ _ => Act.Judges.receives

theorem Lane.mapRecord_service (x : Lane) (f : BurstRecord → BurstRecord) : (x.mapRecord f).SameService x :=
  ⟨rfl, rfl, rfl, rfl, rfl⟩

theorem Lane.role_service (x : Lane) (r : Role) : Lane.SameService { x with role := r } x := ⟨rfl, rfl, rfl, rfl, rfl⟩

theorem State.judgeEffect_work (s : State) (l : Fin 12) (p : Fin 384) (b : Bool) :
    Work Judging s (s.judgeEffect l p b) := by
  unfold State.judgeEffect
  dsimp only
  split
  · exact (Work.refl s).setLane ⟨rfl, rfl, rfl, rfl, rfl⟩
  · split
    · exact ((Work.refl s).setLane ⟨rfl, rfl, rfl, rfl, rfl⟩).setProf trivial
    · split
      · exact (((Work.refl s).setLane ⟨rfl, rfl, rfl, rfl, rfl⟩).setProf trivial).notify trivial
      · exact ((Work.refl s).setLane ⟨rfl, rfl, rfl, rfl, rfl⟩).setProf trivial

/-- A judgement writes one lane's record and profiles, and releases the holding (R160 to R163). -/
theorem State.judge_work (s : State) (l : Fin 12) (p : Fin 384) (b : Bool) : Work Judging s (s.judge l p b) := by
  have h := s.judgeEffect_work l p b
  unfold State.judge
  generalize s.judgeEffect l p b = t at h ⊢
  exact (h.setLane (Lane.role_service _ _)).trans (State.releaseHolder_work _ _).judging

theorem State.checkoutCandidate_work (s : State) (l : Fin 12) (p : Fin 384) :
    Work Judging s (s.checkoutCandidate l p) := by
  unfold State.checkoutCandidate
  split
  · exact (s.becomeHolder_work l p).judging
  · split
    · exact (s.judge_work _ _ _).trans (State.becomeHolder_work _ _ _).judging
    · split
      · exact ((Work.refl s).setLane ⟨rfl, rfl, rfl, rfl, rfl⟩).setProf trivial
      · exact (Work.refl s).setLane (Lane.asGuest_service _ _ _)

/-- A checkout fixes roles and profiles; every lane keeps its service (R147 to R153). -/
theorem State.checkout_work (s : State) (l : Fin 12) : Work Judging s (s.checkout l) := by
  unfold State.checkout
  dsimp only
  split
  · exact (Work.refl s).setLane (Lane.asColdGuest_service _ _)
  · split
    · exact (Work.refl s).setLane ⟨rfl, rfl, rfl, rfl, rfl⟩
    · split
      · split
        · exact (Work.refl s).setLane (Lane.asColdGuest_service _ _)
        · exact (Work.refl s).setLane (Lane.asGuest_service _ _ _)
      · exact s.checkoutCandidate_work _ _

theorem State.claimAtWindow_work (s : State) (l : Fin 12) : Work Judging s (s.claimAtWindow l) := by
  unfold State.claimAtWindow
  split
  · dsimp only
    refine Work.trans ((Work.refl s).setLane ?_) (State.dropClaim_work _ _).judging
    split
    · exact Lane.asColdGuest_service _ _
    · exact Lane.asGuest_service _ _ _
  all_goals exact .refl s

/-- After judgements and releases every lane serves as before. -/
theorem Work.service {s t : State} (h : Work Judging s t) (l : Fin 12) : (t.lane l).SameService (s.lane l) := by
  induction h with
  | refl => exact Lane.SameService.rfl _
  | step a _ ha ih =>
    cases a with
    | lane k x =>
      simp only [Act.apply, State.setLane_lane]
      split
      · rename_i e; subst e
        exact ha.trans ih
      · exact ih
    | prof p x => exact ih
    | notice e => simpa [Act.apply] using ih
    | record r => exact ha.elim
    | queue c q => exact ha.elim
    | ready c => exact ha.elim

/-- Judgements and releases leave the channels and their queues as they are. -/
theorem Work.channels_of_judging {s t : State} (h : Work Judging s t) : t.channels = s.channels := by
  induction h with
  | refl => rfl
  | step a _ ha ih =>
    cases a with
    | lane k x => exact ih
    | prof p x => exact ih
    | notice e => simpa [Act.apply] using ih
    | record r => exact ha.elim
    | queue c q => exact ha.elim
    | ready c => exact ha.elim

/-- A release touches no output. -/
theorem Work.output_of_releasing {s t : State} (h : Work Releasing s t) : t.output = s.output := by
  induction h with
  | refl => rfl
  | step a _ ha ih =>
    cases a with
    | lane k x => exact ih
    | prof p x => exact ih
    | notice e => exact ha.elim
    | record r => exact ha.elim
    | queue c q => exact ha.elim
    | ready c => exact ha.elim

end Sys2Proof.Machine
end

