-- ==== Sys2Proof/Laws/Lanes.lean ====
section
/-! SUPPORT. What arming, the end of a grant, an abort and an arriving sample can do: each is work of the reception, and
aborts without a fallback touch only the lanes they free. -/

namespace Sys2Proof.Machine

variable {q : Prop}

/-! ### Small facts -/

theorem State.settle_work (s : State) (ch : Fin 6) : Work (Receiving q) s (s.settle ch) := by
  unfold State.settle
  split
  · rename_i h; exact (Work.refl s).setReady h
  · exact .refl s

theorem State.emitLane_work (s : State) (l : Fin 12) (r : BurstRecord) : Work (Receiving q) s (s.emitLane l r) :=
  (Work.refl s).emitRecord trivial

/-- A channel with a queued grant is RUNNING or STOPPING. -/
theorem State.Quiet.active {s : State} (h : s.Quiet) {ch : Fin 6} (hq : s.queue ch ≠ []) :
    (s.chan ch).state.active = true := by
  cases e : (s.chan ch).state.active
  · exact absurd (h.inactive ch e).1 hq
  · rfl

/-! ### Arming -/

theorem State.leaveWithoutLane_work (s : State) (ch : Fin 6) (g : QueuedGrant) (o : BurstOutcome) :
    Work (Receiving q) s (s.leaveWithoutLane ch g o) := by
  unfold State.leaveWithoutLane
  dsimp only
  generalize lanelessRecord ch g.grant (s.classOf ch g.grant).modulation o s.lanelessFlags = r
  split
  · rename_i h
    refine ((Work.refl s).emitRecord trivial).setQueue ?_
    simp only [State.emitRecord_queue] at h ⊢
    cases e : s.queue ch with
    | nil => simp [linkBreaks, e] at h
    | cons x xs => exact ⟨x, xs, by simpa using e, .inr rfl⟩
  · exact (Work.refl s).emitRecord trivial

theorem State.allocated_channel (s : State) (ch : Fin 6) (g : QueuedGrant) (o : Int) :
    (s.allocated ch g o).channel = ch := rfl

/-- A grant that has left its queue arms on a channel that is RUNNING or STOPPING (R46). -/
theorem State.armGrant_work (s : State) (pool : List (Fin 12)) (ch : Fin 6) (g : QueuedGrant) (h : q → (s.chan ch).state.active = true) :
    Work (Receiving q) s (s.armGrant pool ch g).1 := by
  unfold State.armGrant
  dsimp only
  split
  · exact s.leaveWithoutLane_work _ _ _
  · split
    · exact s.leaveWithoutLane_work _ _ _
    · split
      · exact s.leaveWithoutLane_work _ _ _
      · refine Work.trans ((Work.refl s).setLane (.inr (.inr (.inr ?_)))) (State.checkout_work _ _).receiving
        rw [State.allocated_channel]; exact h

/-- The head leaves its queue and arms (R46). -/
theorem State.armHead_work (s : State) (pool : List (Fin 12)) (ch : Fin 6) (h : q → s.Quiet) :
    Work (Receiving q) s (s.armHead pool ch).1 := by
  unfold State.armHead
  split
  · exact .refl s
  · rename_i g gs e
    refine Work.trans ((Work.refl s).setQueue ⟨g, gs, e, .inl rfl⟩) (State.armGrant_work _ _ _ _ ?_)
    rw [State.setQueue_chan_state]
    exact fun hp => (h hp).active (by rw [e]; simp)

theorem armRun_work (pool : List (Fin 12)) (ch : Fin 6) :
    ∀ (n : Nat) (s : State), (q → s.Quiet) → Work (Receiving q) s (armRun pool ch n s)
  | 0, s, _ => .refl s
  | n + 1, s, h => by
    unfold armRun
    split
    · exact (s.armHead_work pool ch h).trans (armRun_work pool ch n _ ((s.armHead_work pool ch h).quiet h))
    · exact .refl s

theorem State.runQueue_work (s : State) (pool : List (Fin 12)) (ch : Fin 6) (h : q → s.Quiet) :
    Work (Receiving q) s (s.runQueue pool ch) := armRun_work pool ch _ s h

theorem brokenRun_work (ch : Fin 6) : ∀ (n : Nat) (r : State × Bool), (q → r.1.Quiet) → Work (Receiving q) r.1 (brokenRun ch n r)
  | 0, r, _ => .refl r.1
  | n + 1, r, h => by
    unfold brokenRun
    split
    · exact (r.1.armHead_work laneIds ch h).trans (brokenRun_work ch n _ ((r.1.armHead_work laneIds ch h).quiet h))
    · exact .refl r.1

/-- The fallback of a linked head (R51, R52). -/
theorem State.fallback_work (s : State) (ch : Fin 6) (b : Bool) (h : q → s.Quiet) : Work (Receiving q) s (s.fallback ch b) := by
  have h1 := s.armHead_work laneIds ch h
  have h2 := brokenRun_work ch (s.queue ch).length (s.armHead laneIds ch) (h1.quiet h)
  unfold State.fallback
  dsimp only
  split
  · exact h1.trans h2
  · exact (h1.trans h2).trans (State.runQueue_work _ _ _ ((h1.trans h2).quiet h))

/-! ### Closing and the end of a grant -/

/-- The entry to CLOSING of a lane that is not FREE (R71). -/
theorem State.enterClosing_work (s : State) (l : Fin 12) (o : BurstOutcome) (h : (s.lane l).state ≠ .free) :
    Work (Receiving q) s (s.enterClosing l o) := by
  have h1 : Work (Receiving q) s (s.setLane l { s.lane l with
      state := .closing, closeCount := 0, record := some ((s.lane l).closingRecord l o), lowCount := 0, lowStart := 0 }) :=
    (Work.refl s).setLane (.inr (.inr (.inl ⟨h, rfl⟩)))
  unfold State.enterClosing
  dsimp only
  split
  · split
    · exact h1.trans (State.judge_work _ _ _ _).receiving
    · exact h1
  all_goals exact h1

theorem State.endEarly_work (s : State) (l : Fin 12) (o : BurstOutcome) (h : (s.lane l).state ≠ .free) (hq : q → s.Quiet) :
    Work (Receiving q) s (s.endEarly l o) := by
  have h1 := s.enterClosing_work (q := q) l o h
  unfold State.endEarly
  dsimp only
  split
  · exact h1.trans (State.fallback_work _ _ _ (h1.quiet hq))
  · exact h1

theorem Lane.continueInto_fields (x : Lane) (g : QueuedGrant) (e : ClassEntry) (n : Nat) (a b : Bool) :
    (x.continueInto g e n a b).state = x.state ∧ (x.continueInto g e n a b).channel = x.channel ∧
      (x.continueInto g e n a b).measurement = x.measurement ∧ (x.continueInto g e n a b).role = x.role :=
  ⟨rfl, rfl, rfl, rfl⟩

@[simp] theorem State.emitLane_lane (s : State) (l : Fin 12) (r : BurstRecord) (k : Fin 12) :
    (s.emitLane l r).lane k = s.lane k := by simp [State.emitLane]

@[simp] theorem State.emitLane_queue (s : State) (l : Fin 12) (r : BurstRecord) (k : Fin 6) :
    (s.emitLane l r).queue k = s.queue k := by simp [State.emitLane]

/-- A continuation (R67). -/
theorem State.continueLane_work (s : State) (l : Fin 12) (h : (s.lane l).state ≠ .free) :
    Work (Receiving q) s (s.continueLane l) := by
  unfold State.continueLane
  dsimp only
  split
  · exact .refl s
  · rename_i g gs e
    refine ((s.emitLane_work l _).setQueue ⟨g, gs, by simpa using e, .inl rfl⟩).setLane
      (.inr (.inr (.inl ⟨?_, ?_⟩)))
    · simpa using h
    · simp [(Lane.continueInto_fields _ _ _ _ _ _).2.1]

theorem State.continueLane_lane_state (s : State) (l : Fin 12) : ((s.continueLane l).lane l).state = (s.lane l).state := by
  unfold State.continueLane
  dsimp only
  split
  · rfl
  · simp [(Lane.continueInto_fields _ _ _ _ _ _).1]

theorem endGrants_work (l : Fin 12) :
    ∀ (n : Nat) (s : State), (s.lane l).state ≠ .free → Work (Receiving q) s (endGrants l n s)
  | 0, s, _ => .refl s
  | n + 1, s, h => by
    have h1 := s.continueLane_work (q := q) l h
    have h2 : ((s.continueLane l).lane l).state ≠ .free := by rw [s.continueLane_lane_state]; exact h
    unfold endGrants
    dsimp only
    split
    · split
      · exact h1.trans (endGrants_work l n _ h2)
      · exact h1
    · exact s.enterClosing_work l _ h

/-- The end event of a grant (R67, R68). -/
theorem State.endOfGrant_work (s : State) (l : Fin 12) (h : (s.lane l).state ≠ .free) (hq : q → s.Quiet) :
    Work (Receiving q) s (s.endOfGrant l) := by
  have h1 := endGrants_work (q := q) l ((s.queue (s.lane l).channel).length + 1) s h
  unfold State.endOfGrant
  dsimp only
  split
  · exact h1.trans (State.runQueue_work _ _ _ (h1.quiet hq))
  · exact h1

/-! ### Arrivals -/

theorem Lane.adapt_fields (x : Lane) (n j : Nat) (e : Cx) :
    (x.adapt n j e).state = x.state ∧ (x.adapt n j e).channel = x.channel ∧
      (x.adapt n j e).measurement = x.measurement ∧ (x.adapt n j e).role = x.role := by
  unfold Lane.adapt; split <;> exact ⟨rfl, rfl, rfl, rfl⟩

theorem Lane.trainSymbol_fields (x : Lane) (j : Nat) :
    (x.trainSymbol j).channel = x.channel ∧ (x.trainSymbol j).measurement = x.measurement ∧
      (x.trainSymbol j).role = x.role := (Lane.adapt_fields _ _ _ _).2

theorem Lane.decideSymbol_fields (x : Lane) (j : Nat) :
    (x.decideSymbol j).state = x.state ∧ (x.decideSymbol j).channel = x.channel ∧
      (x.decideSymbol j).measurement = x.measurement ∧ (x.decideSymbol j).role = x.role := Lane.adapt_fields _ _ _ _

/-- The processing of a position keeps the lane's channel, measurement and role, and leaves it in TRAINING or TRACKING. -/
theorem Lane.processNext_fields (x : Lane) (n : Nat) (h : x.state = .training ∨ x.state = .tracking) :
    ((x.processNext n).state = .training ∨ (x.processNext n).state = .tracking) ∧
      (x.processNext n).channel = x.channel ∧ (x.processNext n).measurement = x.measurement ∧
      (x.processNext n).role = x.role := by
  have ht := x.trainSymbol_fields x.nextPos
  have hd := x.decideSymbol_fields x.nextPos
  unfold Lane.processNext
  split
  · refine ⟨?_, ht.1, ht.2.1, ht.2.2⟩
    unfold Lane.afterTraining
    dsimp only
    split
    · exact .inr rfl
    · exact .inl rfl
  · split
    · refine ⟨?_, hd.2.1, hd.2.2.1, hd.2.2.2⟩
      rw [show ({ x.decideSymbol x.nextPos with nextPos := x.nextPos + 1 } : Lane).state = (x.decideSymbol x.nextPos).state
        from rfl, hd.1]
      exact h
    · exact ⟨h, rfl, rfl, rfl⟩

/-- The symbol that an arrival completes. -/
theorem State.symbolArrival_work (s : State) (l : Fin 12) (pos : Int) (hq : q → s.Quiet) :
    Work (Receiving q) s (s.symbolArrival l pos) := by
  unfold State.symbolArrival
  dsimp only
  split
  · rename_i h
    have hp := (s.lane l).processNext_fields (s.chan (s.lane l).channel).spm.spm h.1
    generalize (s.lane l).processNext (s.chan (s.lane l).channel).spm.spm = y at hp ⊢
    have hne : (s.lane l).state ≠ .free := by rcases h.1 with e | e <;> rw [e] <;> simp
    have h1 : Work (Receiving q) s (s.setLane l y) := (Work.refl s).setLane (.inr (.inr (.inl ⟨hne, hp.2.1⟩)))
    split
    · refine h1.trans (State.endOfGrant_work _ _ ?_ (h1.quiet hq))
      simp only [State.setLane_lane, if_true]
      rcases hp.1 with e | e <;> rw [e] <;> simp
    · exact h1
  · exact .refl s

theorem Lane.watchBlock_fields (x : Lane) (j : Nat) :
    (x.watchBlock j).state = x.state ∧ (x.watchBlock j).channel = x.channel ∧
      (x.watchBlock j).measurement = x.measurement ∧ (x.watchBlock j).role = x.role := by
  unfold Lane.watchBlock; split <;> exact ⟨rfl, rfl, rfl, rfl⟩

theorem Lane.removeLate_fields (x : Lane) :
    x.removeLate.state = x.state ∧ x.removeLate.channel = x.channel ∧
      x.removeLate.measurement = x.measurement ∧ x.removeLate.role = x.role := ⟨rfl, rfl, rfl, rfl⟩

/-- The energy block that an arrival completes. -/
theorem State.blockArrival_work (s : State) (l : Fin 12) (pos : Int) (hq : q → s.Quiet) :
    Work (Receiving q) s (s.blockArrival l pos) := by
  unfold State.blockArrival
  dsimp only
  split
  · rename_i h
    split
    · exact .refl s
    · rename_i j0 _
      have hw := (s.lane l).watchBlock_fields j0
      generalize (s.lane l).watchBlock j0 = y at hw ⊢
      have hne : (s.lane l).state ≠ .free := by rw [h.1]; simp
      have h1 : Work (Receiving q) s (s.setLane l (if y.lowCount ≥ 2 then y.removeLate else y)) := by
        refine (Work.refl s).setLane (.inr (.inr (.inl ⟨hne, ?_⟩)))
        split
        · rw [y.removeLate_fields.2.1]; exact hw.2.1
        · exact hw.2.1
      split
      · rename_i h2
        rw [if_pos h2] at h1
        refine h1.trans (State.endEarly_work _ _ _ ?_ (h1.quiet hq))
        simp only [State.setLane_lane, if_true]
        rw [y.removeLate_fields.1, hw.1]; exact hne
      · rename_i h2
        rw [if_neg h2] at h1
        exact h1
  · exact .refl s

/-- The arrival of one position at a lane (R60). -/
theorem State.positionArrival_work (s : State) (l : Fin 12) (pos : Int) (hq : q → s.Quiet) :
    Work (Receiving q) s (s.positionArrival l pos) :=
  (s.symbolArrival_work l pos hq).trans (State.blockArrival_work _ _ _ ((s.symbolArrival_work l pos hq).quiet hq))

/-- The catch-up at TRAINING entry (R64). -/
theorem catchUp_work (l : Fin 12) : ∀ (n : Nat) (pos : Int) (s : State), (q → s.Quiet) → Work (Receiving q) s (catchUp l n pos s)
  | 0, _, s, _ => .refl s
  | n + 1, pos, s, h =>
    (s.positionArrival_work l pos h).trans (catchUp_work l n (pos + 1) _ ((s.positionArrival_work l pos h).quiet h))

theorem Lane.buffered_service (x : Lane) (b : List Sample) : Lane.SameService { x with buffer := b } x :=
  ⟨rfl, rfl, rfl, rfl, rfl⟩

/-- A sample reaches one lane (R59, R60, R72). -/
theorem State.laneSample_work (s : State) (l : Fin 12) (v : Sample) (hq : q → s.Quiet) :
    Work (Receiving q) s (s.laneSample l v) := by
  have hb : Work (Receiving q) s (s.setLane l { s.lane l with buffer := (s.lane l).buffer ++ [v] }) :=
    (Work.refl s).setLane (.inr (.inl (Lane.buffered_service _ _)))
  unfold State.laneSample
  dsimp only
  split
  · exact .refl s
  · exact .refl s
  · exact hb
  · exact hb.trans (State.positionArrival_work _ _ _ (hb.quiet hq))
  · exact hb.trans (State.positionArrival_work _ _ _ (hb.quiet hq))
  · exact (Work.refl s).setLane (.inr (.inl ⟨rfl, rfl, rfl, rfl, rfl⟩))

/-- A fold of work is work. -/
theorem Work.foldl {α : Type} (f : State → α → State) (hf : ∀ s a, (q → s.Quiet) → Work (Receiving q) s (f s a)) :
    ∀ (l : List α) (s : State), (q → s.Quiet) → Work (Receiving q) s (l.foldl f s)
  | [], s, _ => .refl s
  | a :: l, s, h => (hf s a h).trans (Work.foldl f hf l _ ((hf s a h).quiet h))

/-! ### Aborts -/

/-- An abort before CLOSING (R74). -/
theorem State.abortReceiving_work (s : State) (l : Fin 12) (c : AbortCause) (b : Bool) (hq : q → s.Quiet) :
    Work (Receiving q) s (s.abortReceiving l c b) := by
  unfold State.abortReceiving
  dsimp only
  generalize hx : (if (s.chan (s.lane l).channel).disposition = .silent then s else
    s.emitLane l ((s.lane l).abortRecord l c (s.chan (s.lane l).channel).disposition)) = u
  have h0 : Work (Receiving q) s u := by
    rw [← hx]; split
    · exact .refl s
    · exact s.emitLane_work _ _
  have h1 : Work (Receiving q) s ((u.setLane l Lane.idle).releaseRole (s.lane l).role) :=
    (h0.setLane (.inl rfl)).trans (State.releaseRole_work _ _).judging.receiving
  split
  · have h2 := h1.trans (State.fallback_work _ (s.lane l).channel b (h1.quiet hq))
    exact h2.trans (State.settle_work _ _)
  · exact h1.trans (State.settle_work _ _)

/-- An abort in CLOSING (R76). -/
theorem State.abortClosing_work (s : State) (l : Fin 12) : Work (Receiving q) s (s.abortClosing l) := by
  unfold State.abortClosing
  dsimp only
  split
  · exact (((Work.refl s).setLane (.inl rfl)).trans (State.releaseRole_work _ _).judging.receiving).trans
      (State.settle_work _ _)
  · exact (((s.emitLane_work _ _).setLane (.inl rfl)).trans (State.releaseRole_work _ _).judging.receiving).trans
      (State.settle_work _ _)

theorem State.abortLane_work (c : AbortCause) (b : Bool) (s : State) (l : Fin 12) (hq : q → s.Quiet) :
    Work (Receiving q) s (State.abortLane c b s l) := by
  unfold State.abortLane
  split
  · exact .refl s
  · exact s.abortClosing_work l
  all_goals exact s.abortReceiving_work l c b hq

/-- The aborts of one event (R77). -/
theorem State.abortLanes_work (s : State) (c : AbortCause) (b : Bool) (ls : List (Fin 12)) (hq : q → s.Quiet) :
    Work (Receiving q) s (s.abortLanes c b ls) :=
  Work.foldl _ (fun s l h => State.abortLane_work c b s l h) ls s hq

/-- A window opens (R25, R61). -/
theorem State.openWindow_work (s : State) (l : Fin 12) (h : (s.lane l).state ≠ .free) (hq : q → s.Quiet) :
    Work (Receiving q) s (s.openWindow l) := by
  unfold State.openWindow
  split
  · exact State.abortLane_work _ _ s l hq
  · dsimp only
    have hw := s.claimAtWindow_work l
    have hs := hw.service l
    refine hw.receiving.setLane (.inr (.inr (.inl ⟨?_, rfl⟩)))
    rw [hs.1]; exact h

/-- A search ends (R63). -/
theorem State.endSearch_work (s : State) (l : Fin 12) (h : (s.lane l).state ≠ .free) (hq : q → s.Quiet) :
    Work (Receiving q) s (s.endSearch l) := by
  unfold State.endSearch
  dsimp only
  split
  · have h1 : Work (Receiving q) s (s.setLane l { s.lane l with
        state := .training, measurement := some (s.lane l).measured, nextPos := 0 }) :=
      (Work.refl s).setLane (.inr (.inr (.inl ⟨h, rfl⟩)))
    exact h1.trans (catchUp_work _ _ _ _ (h1.quiet hq))
  · exact s.endEarly_work l _ h hq

/-- A close completes (R73). -/
theorem State.completeClose_work (s : State) (l : Fin 12) : Work (Receiving q) s (s.completeClose l) := by
  have key : ∀ u : State, Work (Receiving q) s u →
      Work (Receiving q) s (((match (u.lane l).record with
        | none => u
        | some r => u.emitLane l r).setLane l Lane.idle).settle (u.lane l).channel) := by
    intro u h0
    split
    · exact (h0.setLane (.inl rfl)).trans (State.settle_work _ _)
    · exact ((h0.trans (State.emitLane_work _ _ _)).setLane (.inl rfl)).trans (State.settle_work _ _)
  unfold State.completeClose
  cases hr : (s.lane l).role with
  | holder p => exact key _ (s.judge_work _ _ _).receiving
  | _ => exact key _ (.refl s)

end Sys2Proof.Machine
end

