-- ==== Sys2Proof/Laws/Fallback.lean ====
section
/-! SUPPORT. What the fallback of a linked head does when no grant behind it is due: it arms the head alone. -/

namespace Sys2Proof.Machine

/-- A head whose arm tick is not reached is not due. -/
theorem State.headDue_of_not_reached {s : State} {ch : Fin 6} {q : List QueuedGrant} (hq : s.queue ch = q)
    (h : ∀ g ∈ q.head?, g.armReached = false) : s.headDue ch = false := by
  unfold State.headDue
  rw [hq]
  cases q with
  | nil => rfl
  | cons g gs => simp [h g (by simp)]

/-- A channel with no due head arms nothing. -/
theorem armRun_of_not_due {pool ch n} {s : State} (h : s.headDue ch = false) : armRun pool ch n s = s := by
  cases n <;> simp [armRun, h]

theorem brokenRun_of_not_due {ch n} {s : State} {b : Bool} (h : s.headDue ch = false) : brokenRun ch n (s, b) = s := by
  cases n <;> simp [brokenRun, h]

/-- The fallback is the arming of the head where the next grant is not due (R51, R52). -/
theorem State.fallback_of_not_due {s : State} {ch : Fin 6} (h : (s.armHead laneIds ch).1.headDue ch = false) :
    s.fallback ch false = (s.armHead laneIds ch).1 := by
  have e : s.armHead laneIds ch = ((s.armHead laneIds ch).1, (s.armHead laneIds ch).2) := rfl
  unfold State.fallback
  rw [e, brokenRun_of_not_due h]
  simp [State.runQueue, armRun_of_not_due h]

/-- A judgement leaves the queues. -/
theorem Work.judging_queue {s t : State} (h : Work Judging s t) (ch : Fin 6) : t.queue ch = s.queue ch := by
  induction h with
  | refl => rfl
  | step a _ ha ih =>
    rw [← ih]
    cases a <;> simp_all [Judging, Act.Judges, Act.apply, State.queue]

/-- A head that takes no lane leaves its record, and the next head its link where the chain breaks (R46, R53). -/
theorem State.leaveWithoutLane_head (w : State) (ch : Fin 6) (g : QueuedGrant) (rest : List QueuedGrant)
    (outcome : BurstOutcome) :
    (w.setQueue ch rest).leaveWithoutLane ch g outcome = { w with
        channels := w.channels.set ch { w.chan ch with
          queue := match rest with
            | [] => []
            | h :: hs => (if g.grant.chain then { h with link := false } else h) :: hs }
        output := w.output.placeRecord
          { channel := ch, cls := g.grant.cls, modulation := (w.chan ch).classes[g.grant.cls].modulation
            outcome := outcome, cause := none, station := g.grant.station, start := g.grant.start
            counter := w.timebase.counter
            flags := { RecordFlags.clear with holdover := w.timebase.sync == .holdover }
            gate := none, lane := none, laneSection := none, measurement := none, sums := none, recentre := none
            symbols := none, ranging := none } } := by
  unfold State.leaveWithoutLane
  cases rest with
  | nil =>
    simp [linkBreaks, State.setQueue, State.setChan, State.emitRecord, State.setOutput, State.queue, State.chan,
      lanelessRecord, State.counter, State.lanelessFlags, State.classOf]
  | cons h hs =>
    rcases h with ⟨_, _, _, _, _, link, _⟩
    cases hgc : g.grant.chain <;> cases link <;>
      simp [hgc, linkBreaks, breakLink, State.setQueue, State.setChan, State.emitRecord, State.setOutput, State.queue,
        State.chan, lanelessRecord, State.counter, State.lanelessFlags, Vector.set_set, State.classOf]

theorem State.freeLane_of_none_free {s : State} (h : ∀ k, (s.lane k).state ≠ .free) : s.freeLane laneIds = none := by
  simp [State.freeLane, h]

/-- The lowest FREE lane is taken (R46). -/
theorem State.freeLane_of_lowest {s : State} {k : Fin 12} (h : (s.lane k).state = .free)
    (hl : ∀ j, j < k → (s.lane j).state ≠ .free) : s.freeLane laneIds = some k := by
  unfold State.freeLane
  have e : laneIds = List.finRange 12 := by decide
  rw [e, List.find?_eq_some_iff_getElem]
  refine ⟨by simp [h], k.val, by simp, by simp, fun j hj => ?_⟩
  have := hl ⟨j, by omega⟩ hj
  simpa using this

/-- What the fallback of a linked head can do, said once (R46, R51, R52). -/
theorem State.fallback_fallsBack {w : State} {ch : Fin 6} {g : QueuedGrant} {rest : List QueuedGrant}
    (hq : w.queue ch = g :: rest) (hn : ∀ h ∈ rest.head?, h.armReached = false) :
    w.FallsBack (w.fallback ch false) ch g rest := by
  intro c e opens ends hc he ho hs
  have hw : windowOpenTick ((w.setQueue ch rest).chan ch) g c ((w.setQueue ch rest).classOf ch g.grant).w = opens := by
    rw [ho]
    simp [windowOpenTick, addTicks, Channel.quarters, State.setQueue, State.classOf, he]
  have hsd : searchEndTick ((w.setQueue ch rest).chan ch) g c e.w e.lp = ends := by
    rw [hs]
    simp [searchEndTick, addTicks, Channel.quarters, Channel.symbolTicks, corrLength, State.setQueue]
  have hce : (w.setQueue ch rest).expectedOffset ch g.grant = c := by
    rw [hc]; rfl
  have hr : (w.setQueue ch rest).reached opens = w.reached opens := rfl
  have hk : ((w.setQueue ch rest).chan ch).lock = (w.chan ch).lock := by simp [State.setQueue]
  have hcl : (w.setQueue ch rest).classOf ch g.grant = e := by simp [State.setQueue, State.classOf, he]
  constructor
  · intro outcome hoc
    have ha : w.armHead laneIds ch = ((w.setQueue ch rest).leaveWithoutLane ch g outcome,
        linkBreaks g ((w.setQueue ch rest).queue ch)) := by
      unfold State.armHead
      rw [hq]
      simp only [State.armGrant]
      rw [hce, hw, hr, hk]
      rcases hoc with ⟨h1, rfl⟩ | ⟨h1, h2, rfl⟩ | ⟨h1, h2, h3, rfl⟩
      · simp [h1]
      · simp [h1, h2]
      · have : (w.setQueue ch rest).freeLane laneIds = none := State.freeLane_of_none_free h3
        simp [h1, h2, this]
    have hv := State.leaveWithoutLane_head w ch g rest outcome
    rw [← he] at hv
    have hd : (w.armHead laneIds ch).1.headDue ch = false := by
      rw [ha, hv]
      cases rest with
      | nil => exact State.headDue_of_not_reached (q := []) (by simp [State.queue, State.chan]) (by simp)
      | cons h hs =>
        refine State.headDue_of_not_reached (q := (if g.grant.chain then { h with link := false } else h) :: hs)
          (by simp [State.queue, State.chan]) ?_
        have := hn h (by simp)
        intro x hx
        simp at hx
        subst hx
        split <;> simpa
    rw [State.fallback_of_not_due hd, ha]
    exact hv
  · intro k h1 h2 h3 h4
    have ha : w.armHead laneIds ch =
        (((w.setQueue ch rest).setLane k ((w.setQueue ch rest).allocated ch g c)).checkout k, false) := by
      unfold State.armHead
      rw [hq]
      simp only [State.armGrant]
      rw [hce, hw, hr, hk]
      have : (w.setQueue ch rest).freeLane laneIds = some k := State.freeLane_of_lowest h3 h4
      simp [h1, h2, this]
    have hd : (w.armHead laneIds ch).1.headDue ch = false := by
      rw [ha]
      refine State.headDue_of_not_reached (q := rest) ?_ hn
      rw [Work.judging_queue (State.checkout_work _ _)]
      simp [State.queue, State.setQueue]
    rw [State.fallback_of_not_due hd, ha]
    show State.checkout _ k = _
    congr 1
    unfold State.allocated
    simp only [hcl] at hw ⊢
    simp only [hw, hsd]
    simp [State.setQueue, State.setLane, State.setChan, corrLength, Sums.zero, Lane.idle,
      State.reached, State.counter]

end Sys2Proof.Machine
end

