-- ==== Sys2Proof/Laws/PerInstr.lean ====
section
/-! SUPPORT. For each command, as syntax: the message it carries fits one frame and is separated from the frame's bytes
whole (R184). -/

namespace Sys2Proof.Laws

/-- The message of a command that can be sent fits the message bytes of a frame, and the separation of those bytes gives
that message back and nothing else (R184, R188). -/
def Carried.Statement (i : Instr) : Prop :=
  WellFormed i = true → ∀ m, i.message = some m →
    (writeMessage m).length ≤ Config.frameMessageBytes ∧
      separateMessages (writeMessage m).length (writeMessage m) = [m]

namespace Carried

/-- A message with a body that fits and a kind byte other than 0. -/
theorem of_message (m : Message) (hb : bodyFits m.body = true) (hk : m.kind ≠ 0#8) :
    (writeMessage m).length ≤ Config.frameMessageBytes ∧
      separateMessages (writeMessage m).length (writeMessage m) = [m] := by
  have hb : m.body.length ≤ 1494 := of_decide_eq_true hb
  refine ⟨by rw [writeMessage_length]; simp only [Config.frameMessageBytes]; omega, ?_⟩
  rw [writeMessage_length]
  simp only [writeMessage, beBytes, List.cons_append, List.nil_append, separateMessages, if_neg hk]
  have hv : value16 (BitVec.ofNat 8 ((m.body.length + 4) / 256 ^ 1)) (BitVec.ofNat 8 ((m.body.length + 4) / 256 ^ 0)) =
      m.body.length + 4 := by
    simpa using value16_bytes (m.body.length + 4) (by omega)
  rw [hv]
  simp [separateMessages]

/-- A command without a message. -/
theorem of_none (i : Instr) (h : i.message = none) : Statement i := by
  intro _ m hm
  rw [h] at hm
  exact absurd hm (by simp)

theorem resetNAssert : Statement .resetNAssert := of_none _ rfl
theorem resetNRelease : Statement .resetNRelease := of_none _ rfl
theorem frameReceived (frame : List Byte) : Statement (.frameReceived frame) := of_none _ rfl
theorem frameSend : Statement .frameSend := of_none _ rfl
theorem timeMark (tag : Byte) (body : List Byte) : Statement (.timeMark tag body) := fun h m hm => by
  cases Option.some.inj hm
  exact of_message _ h (show kindTimeMark ≠ 0#8 by decide)
theorem markTimeoutExpiry : Statement .markTimeoutExpiry := of_none _ rfl
theorem holdoverLimitExpiry : Statement .holdoverLimitExpiry := of_none _ rfl
theorem nodeSet (tag : Byte) (body : List Byte) : Statement (.nodeSet tag body) := fun h m hm => by
  cases Option.some.inj hm
  exact of_message _ h (show kindNodeSet ≠ 0#8 by decide)
theorem resetNode (tag : Byte) (body : List Byte) : Statement (.resetNode tag body) := fun h m hm => by
  cases Option.some.inj hm
  exact of_message _ h (show kindResetNode ≠ 0#8 by decide)
theorem channelSet (tag : Byte) (body : List Byte) : Statement (.channelSet tag body) := fun h m hm => by
  cases Option.some.inj hm
  exact of_message _ h (show kindChannelSet ≠ 0#8 by decide)
theorem channelStart (tag : Byte) (body : List Byte) : Statement (.channelStart tag body) := fun h m hm => by
  cases Option.some.inj hm
  exact of_message _ h (show kindChannelStart ≠ 0#8 by decide)
theorem channelStop (tag : Byte) (body : List Byte) : Statement (.channelStop tag body) := fun h m hm => by
  cases Option.some.inj hm
  exact of_message _ h (show kindChannelStop ≠ 0#8 by decide)
theorem channelHalt (tag : Byte) (body : List Byte) : Statement (.channelHalt tag body) := fun h m hm => by
  cases Option.some.inj hm
  exact of_message _ h (show kindChannelHalt ≠ 0#8 by decide)
theorem schedule (tag : Byte) (body : List Byte) : Statement (.schedule tag body) := fun h m hm => by
  cases Option.some.inj hm
  exact of_message _ h (show kindSchedule ≠ 0#8 by decide)
theorem profileBind (tag : Byte) (body : List Byte) : Statement (.profileBind tag body) := fun h m hm => by
  cases Option.some.inj hm
  exact of_message _ h (show kindProfileBind ≠ 0#8 by decide)
theorem profileUnbind (tag : Byte) (body : List Byte) : Statement (.profileUnbind tag body) := fun h m hm => by
  cases Option.some.inj hm
  exact of_message _ h (show kindProfileUnbind ≠ 0#8 by decide)
theorem profileRevert (tag : Byte) (body : List Byte) : Statement (.profileRevert tag body) := fun h m hm => by
  cases Option.some.inj hm
  exact of_message _ h (show kindProfileRevert ≠ 0#8 by decide)
theorem profileClear (tag : Byte) (body : List Byte) : Statement (.profileClear tag body) := fun h m hm => by
  cases Option.some.inj hm
  exact of_message _ h (show kindProfileClear ≠ 0#8 by decide)
theorem tableSeek (tag : Byte) (body : List Byte) : Statement (.tableSeek tag body) := fun h m hm => by
  cases Option.some.inj hm
  exact of_message _ h (show kindTableSeek ≠ 0#8 by decide)
theorem tablePut (tag : Byte) (body : List Byte) : Statement (.tablePut tag body) := fun h m hm => by
  cases Option.some.inj hm
  exact of_message _ h (show kindTablePut ≠ 0#8 by decide)
theorem putItem : Statement .putItem := of_none _ rfl
theorem tableGet (tag : Byte) (body : List Byte) : Statement (.tableGet tag body) := fun h m hm => by
  cases Option.some.inj hm
  exact of_message _ h (show kindTableGet ≠ 0#8 by decide)
theorem getItem : Statement .getItem := of_none _ rfl
theorem directoryGet (tag : Byte) (body : List Byte) : Statement (.directoryGet tag body) := fun h m hm => by
  cases Option.some.inj hm
  exact of_message _ h (show kindDirectoryGet ≠ 0#8 by decide)
theorem statusGet (tag : Byte) (body : List Byte) : Statement (.statusGet tag body) := fun h m hm => by
  cases Option.some.inj hm
  exact of_message _ h (show kindStatusGet ≠ 0#8 by decide)
theorem unknownKind (kind tag : Byte) (body : List Byte) : Statement (.unknownKind kind tag body) := fun h m hm => by
  cases Option.some.inj hm
  have h : (bodyFits body && !kindIsKnown kind) = true := h
  rw [Bool.and_eq_true] at h
  refine of_message _ h.1 fun (e : kind = 0#8) => ?_
  subst e
  exact absurd h.2 (by decide)
theorem inputLockLost (ch : Fin 6) : Statement (.inputLockLost ch) := of_none _ rfl
theorem inputLockLocked (ch : Fin 6) : Statement (.inputLockLocked ch) := of_none _ rfl
theorem arming (ch : Fin 6) : Statement (.arming ch) := of_none _ rfl
theorem windowOpening (l : Fin 12) : Statement (.windowOpening l) := of_none _ rfl
theorem searchEnd (l : Fin 12) : Statement (.searchEnd l) := of_none _ rfl
theorem sampleArrival (ch : Fin 6) (re im : BitVec 12) : Statement (.sampleArrival ch re im) := of_none _ rfl
theorem endEvent (l : Fin 12) : Statement (.endEvent l) := of_none _ rfl
theorem closeCompletion (l : Fin 12) : Statement (.closeCompletion l) := of_none _ rfl
theorem sweepVisit : Statement .sweepVisit := of_none _ rfl
theorem tick : Statement .tick := of_none _ rfl

end Carried

end Sys2Proof.Laws
end

