-- ==== Sys2Proof/Tests/Slice0.lean ====
section
/-! SUPPORT. Tests. The checks of `WellFormed` with a term that each refuses; the manual's worked cases, each about one
step; and for every statement with hypotheses a state and operands that meet them together. Expected values come from
the manual's worked sequences, or by hand from its tables. -/

namespace Sys2Proof.Tests

set_option Elab.async false

open Sys2Proof.Machine

/-! ### Helpers -/

/-- The state after a command, or the state itself when it stops. -/
def after (c : Instr) (s : State) : State :=
  match exec c s with
  | .next t => t
  | .fault _ | .refused _ => s

/-- The state once its counter has changed to another value. -/
def atTick (s : State) (t : Nat) : State := s.setCounter (BitVec.ofNat 32 t)

/-- The status of the last item, when it is a response. -/
def lastStatus (s : State) : Option Status :=
  match s.output.items.getLast? with
  | some (.response r) => some r.status
  | _ => none

/-- The fields of the last item, when it is a response. -/
def lastFields (s : State) : List Byte :=
  match s.output.items.getLast? with
  | some (.response r) => r.fields
  | _ => []

/-- The last item, when it is a record. -/
def lastRecord (s : State) : Option BurstRecord :=
  match s.output.items.getLast? with
  | some (.record r) => some r
  | _ => none

/-- A state after power-on that is SYNCED at a counter. -/
def synced (t : Nat) : State :=
  { State.reset with timebase := { Timebase.reset with counter := BitVec.ofNat 32 t, sync := .synced,
                                                       lastMark := BitVec.ofNat 32 t } }

/-- A state in HOLDOVER since tick `h`, at counter `t`. -/
def holding (t h : Nat) : State :=
  { State.reset with timebase := { Timebase.reset with counter := BitVec.ofNat 32 t, sync := .holdover,
                                                       holdoverStart := BitVec.ofNat 32 h } }

/-- An output queue with `n` bytes of room. -/
def queueWithRoom (n : Nat) : OutputQueue :=
  { OutputQueue.reset with items := [.response ⟨0, 0, .ok, List.replicate (262138 - n) 0⟩] }

theorem queueWithRoom_room (n : Nat) (h : n ≤ 262138) : (queueWithRoom n).room = n := by
  simp [OutputQueue.room, OutputQueue.fill, queueWithRoom, OutItem.size, OutItem.message, Response.body,
    Config.outputCapacity]
  omega

/-- A request on an empty inbound buffer is taken at once. -/
theorem ready_of {s : State} {m : Message} {room : Nat}
    (h : s.resetHeld = false ∧ s.link.transfer = none ∧ s.link.inbound = [] ∧ room ≤ s.output.room) : s.Ready m room :=
  let ⟨running, idle, empty, fits⟩ := h
  ⟨running, idle, .inl empty, fits⟩

/-! ### The checks of WellFormed -/

/-- A body of 1,495 bytes does not fit a frame (R184). -/
theorem test_wellformed_refuses_a_long_body : WellFormed (.nodeSet 0 (List.replicate 1495 0)) = false := by
  decide +kernel

theorem test_wellformed_takes_the_longest_body : WellFormed (.nodeSet 0 (List.replicate 1494 0)) = true := by
  decide +kernel

/-- A message of a known kind, or of kind 0, is not one of an unknown kind (R184, R186). -/
theorem test_wellformed_refuses_a_known_kind : WellFormed (.unknownKind 0x30 0 []) = false := by decide

theorem test_wellformed_refuses_kind_zero : WellFormed (.unknownKind 0x00 0 []) = false := by decide

theorem test_wellformed_refuses_a_long_unknown_body :
    WellFormed (.unknownKind 0x77 0 (List.replicate 1495 0)) = false := by decide +kernel

theorem test_wellformed_takes_an_unknown_kind : WellFormed (.unknownKind 0x81 0 [1]) = true := by decide

/-- A term that `WellFormed` refuses stops with a fault. -/
theorem test_oversized_message_faults (body : List Byte) (h : 1494 < body.length) :
    exec (.nodeSet 0 body) State.reset = .fault .oversizedMessage :=
  if_neg (Nat.not_le.mpr h)

theorem test_known_kind_faults : exec (.unknownKind 0x30 0 []) State.reset = .fault .kindNotUnknown := rfl

/-! ### Commands as words: the table gives none bits -/

theorem test_no_word_spells_a_command : decodeTableWord 32 0x12345678 = none := rfl

/-! ### Chapter 1: the worked sequence of section 1.8 -/

/-- Step 2: the first mark is loaded whatever its distance. -/
theorem test_timeMark_first_is_loaded :
    (after (.timeMark 0 (writeTimeMark 3000000000)) (atTick State.reset 1000000)).timebase =
      { Timebase.reset with counter := 3000000000, sync := .synced, lastMark := 3000000000 } := by decide +kernel

/-- Step 3: d = −5 takes one tick from the counter. -/
theorem test_timeMark_near_moves_one_tick :
    (after (.timeMark 0 (writeTimeMark 3002560000)) (synced 3002560005)).timebase =
      { Timebase.reset with counter := 3002560004, sync := .synced, lastMark := 3002560004 } := by decide +kernel

/-- Step 4: d = +30 loads the counter and raises TIMEBASE_STEP (+30). -/
theorem test_timeMark_far_steps :
    (after (.timeMark 0 (writeTimeMark 3005120130)) (synced 3005120100)).output.items =
      [.notice ⟨.timebaseStep 30, false, 3005120130⟩] := by decide +kernel

/-- Step 5: the timeout's deadline is 3,005,120,130 + 5,120,000. -/
theorem test_markTimeout_enters_holdover :
    (after .markTimeoutExpiry (atTick (synced 3005120130) 3010240130)).timebase.sync = .holdover ∧
      (after .markTimeoutExpiry (atTick (synced 3005120130) 3010240129)).timebase.sync = .synced := by decide +kernel

/-- The later holdover: the limit's deadline lies past the wrap of the counter. -/
theorem test_holdoverLimit_past_the_wrap :
    (after .holdoverLimitExpiry (holding 4290000000 4200000000)).timebase.sync = .holdover ∧
      (after .holdoverLimitExpiry (holding 109832704 4200000000)).timebase.sync = .unsynced := by decide +kernel

/-- The counter counts once RESET_N is released, and not while it is low (R1, R15). -/
theorem test_tick_counts_after_release :
    (after .tick (after .resetNAssert (synced 77))).counter = 0 ∧
      (after .tick (after .resetNRelease (after .resetNAssert (synced 77)))).counter = 1 := by decide +kernel

/-! ### Chapter 2: the worked sequence of section 2.8 -/

/-- Class 0 of channel 3 as step 1 writes it. -/
def class28 : ClassEntry :=
  { valid := true, modulation := .qam16, preamble := 2, lp := 40, w := 40, rho := 10, muTrain := 5, muTrack := 16,
    guardLen := 4, gate := 6, floor := 20000 }

/-- A PUT of one item at a pointer, about to take it. -/
def putting (s : State) (a : AccessPointer) (i : PutItem) : State :=
  { s with link := { s.link with pointer := a, transfer := some (.put 9 [i] 0 false) } }

/-- Step 1: the μ_train shift of 5 is raised to 8, Lp stays 40, CLAMPED. -/
theorem test_putItem_class_is_clamped :
    ((after .putItem (putting (synced 0) ⟨.classes, 3, 0⟩ (.classEntry class28))).chan 3).classes[0] =
        { class28 with muTrain := 8 } ∧
      lastStatus (after .putItem (putting (synced 0) ⟨.classes, 3, 0⟩ (.classEntry class28))) = some .clamped := by
  decide +kernel

/-- The state after step 1. -/
def after28 : State := after .putItem (putting (synced 0) ⟨.classes, 3, 0⟩ (.classEntry class28))

/-- Step 2: a pattern of 32 symbols lowers the Lp of 40, CLAMPED. -/
theorem test_putItem_pattern_lowers_lp :
    ((after .putItem (putting after28 ⟨.preambles, 0, 2⟩ (.pattern (List.replicate 32 1)))).chan 3).classes[0].lp = 32 ∧
      lastStatus (after .putItem (putting after28 ⟨.preambles, 0, 2⟩ (.pattern (List.replicate 32 1)))) =
        some .clamped := by decide +kernel

/-- Step 3: CHANNEL START of an OFF channel. -/
theorem test_channelStart_off_is_refused :
    lastStatus (after (.channelStart 1 (writeChannel 3)) after28) = some .channelState := by decide +kernel

/-- Steps 4 and 5: CHANNEL SET, then CHANNEL START. -/
theorem test_channelSet_then_start :
    ((after (.channelStart 2 [3]) (after (.channelSet 1 [3, 1, 16, 0, 0, 0, 0, 0]) after28)).chan 3).state = .running ∧
      lastStatus (after (.channelStart 2 [3]) (after (.channelSet 1 [3, 1, 16, 0, 0, 0, 0, 0]) after28)) = some .ok := by
  decide +kernel

/-- A minislot size of 12 is outside its set (section 10.6). -/
theorem test_channelSet_malformed :
    lastStatus (after (.channelSet 1 [3, 1, 12, 0, 0, 0, 0, 0]) after28) = some .malformed := by decide +kernel

/-! ### Chapter 3: the worked SCHEDULE of section 3.3 -/

/-- The two classes of section 3.3. -/
def class33a : ClassEntry :=
  { ClassEntry.reset with valid := true, modulation := .qam64, preamble := 3, lp := 16, guardLen := 2 }

def class33b : ClassEntry := { ClassEntry.reset with valid := true, preamble := 5 }

/-- A queued grant of station 301 that ends at tick 1,280,256. -/
def tail33 : QueuedGrant :=
  { grant := ⟨301, 20000, 4, 1, false, false, false⟩, startTick := 1280000, armTick := 1279744, endTick := 1280256,
    dataCount := 56, link := false, armReached := false }

/-- Channel 1 as section 3.3 has it, its queue holding `n` grants. -/
def channel33 (n : Nat) : Channel :=
  { Channel.reset with
    state := .running, rate := .msym6_4, spm := .sym16, lock := .locked
    classes := (Channel.reset.classes.set 0 class33a).set 1 class33b, queue := List.replicate n tail33 }

def state33 (t n : Nat) : State :=
  { synced t with
    channels := (synced t).channels.set 1 (channel33 n)
    patterns := ((synced t).patterns.set 3 (List.replicate 24 2)).set 5 (List.replicate 16 1) }

def g1 : Grant := ⟨412, 20004, 3, 0, false, true, false⟩
def g2 : Grant := ⟨412, 20007, 2, 0, false, false, false⟩
def g3 : Grant := ⟨16383, 20009, 1, 1, false, true, false⟩
def g4 : Grant := ⟨518, 20010, 1, 0, false, false, false⟩
def g5 : Grant := ⟨518, 20011, 4, 0, false, false, false⟩

/-- The state after the first SCHEDULE. -/
def after33 : State := after (.schedule 0x2C (writeSchedule 1 [g1, g2, g3, g4, g5])) (state33 1200000 44)

/-- BAD_LENGTH, accepted count 3, free count 1. -/
theorem test_schedule_refusal_inside_the_list :
    lastStatus after33 = some .badLength ∧ lastFields after33 = [3, 1] ∧
      ((after33.queue 1).drop 44).map (fun q => (q.armTick, q.endTick, q.dataCount, q.grant.chain, q.link)) =
        [(1280000, 1280448, 30, true, false), (1280192, 1280576, 14, false, true), (1280320, 1280640, 8, false, false)] := by
  decide +kernel

/-- R42: the tail ends at tick 1,280,256, minislot 20,004; a start 2^31 ticks (33,554,432 minislots of 64) beyond it is out
of order, and one a minislot nearer is in order and late (R43). -/
theorem test_schedule_half_range_is_out_of_order :
    lastStatus (after (.schedule 0 (writeSchedule 1 [{ g4 with start := 33574436, length := 2 }])) (state33 1200000 44)) =
        some .grantOrder ∧
      lastStatus (after (.schedule 0 (writeSchedule 1 [{ g4 with start := 33574435, length := 2 }])) (state33 1200000 44)) =
        some .grantLate := by decide +kernel

/-- The second SCHEDULE: GRANT_ORDER comes before QUEUE_FULL. -/
theorem test_schedule_order_before_full :
    lastStatus (after (.schedule 0x2D (writeSchedule 1 [{ g4 with length := 2 }, g5])) (atTick after33 1200500)) =
        some .grantOrder ∧
      lastFields (after (.schedule 0x2D (writeSchedule 1 [{ g4 with length := 2 }, g5])) (atTick after33 1200500)) =
        [1, 0] := by decide +kernel

/-! ### Chapter 5: the worked detection of section 5.6 -/

def class56 : ClassEntry :=
  { valid := true, modulation := .qam16, preamble := 4, lp := 8, w := 2, rho := 10, muTrain := 12, muTrack := 16,
    guardLen := 0, gate := 0, floor := 0 }

def grant56 : QueuedGrant :=
  { grant := ⟨2210, 5000, 4, 3, false, false, false⟩, startTick := 640000, armTick := 639488, endTick := 640512,
    dataCount := 56, link := false, armReached := false }

/-- Channel 0 and profile 96 as section 5.6 has them, at a counter; lanes 0 and 1 are free, so the lane is lane 0. -/
def state56 (t : Nat) : State :=
  { synced t with
    channels := (synced t).channels.set 0 { Channel.reset with
      state := .running, rate := .msym3_2, spm := .sym16, lock := .locked
      classes := Channel.reset.classes.set 3 class56, queue := [grant56] }
    patterns := (synced t).patterns.set 4 [0, 1, 3, 2, 1, 0, 2, 3]
    profiles := (synced t).profiles.set 96 { Profile.free with state := .bound, key := some ⟨2210, 0⟩ }
    directory := [⟨⟨2210, 0⟩, 96⟩] }

/-- The head's arm tick reached by a change of the counter. -/
def due56 : State := atTick (state56 0) 639488

def armed56 : State := after (.arming 0) due56

/-- The arming: the lane's ticks, and the holding of profile 96. -/
theorem test_arming_forms_the_window :
    ((armed56.lane 0).state, (armed56.lane 0).windowOpen, (armed56.lane 0).searchEnd, (armed56.lane 0).role) =
        (.armed, 639996, 640068, .holder 96) ∧ (armed56.prof 96).holder = some 0 := by decide +kernel

def opened56 : State := after (.windowOpening 0) (atTick armed56 639996)

/-- The window opens at its tick and not before. -/
theorem test_windowOpening_starts_the_search :
    (opened56.lane 0).state = .searching ∧ (opened56.lane 0).firstPos = -2 ∧
      ((after (.windowOpening 0) (atTick armed56 639995)).lane 0).state = .armed := by decide +kernel

/-- A mark that takes the counter back by one tick does not undo what the tick before it reached (R2). -/
theorem test_windowOpening_after_a_move_back :
    ((after (.windowOpening 0) (atTick (atTick armed56 639996) 639995)).lane 0).state = .searching := by decide +kernel

/-- The four samples of a preamble symbol with signs `a` and `b`: 0.375, 0.75, 0.25 and 0 times its point. -/
def symbol56 (a b : Int) : List Sample :=
  [⟨.ofInt 12 (384 * a), .ofInt 12 (384 * b)⟩, ⟨.ofInt 12 (768 * a), .ofInt 12 (768 * b)⟩,
   ⟨.ofInt 12 (256 * a), .ofInt 12 (256 * b)⟩, ⟨0, 0⟩]

/-- Positions s0 − 2 .. s0 + 31 of section 5.6. -/
def samples56 : List Sample :=
  [⟨0, 0⟩, ⟨0, 0⟩] ++ symbol56 1 1 ++ symbol56 (-1) 1 ++
    [⟨384, .ofInt 12 (-384)⟩, ⟨868, .ofInt 12 (-708)⟩, ⟨256, .ofInt 12 (-256)⟩, ⟨0, 0⟩] ++ symbol56 (-1) (-1) ++
    symbol56 (-1) 1 ++ symbol56 1 1 ++ symbol56 (-1) (-1) ++ symbol56 1 (-1)

/-- Lane 0 with those samples buffered, its search end tick reached. -/
def heard56 : State :=
  atTick (opened56.setLane 0 { opened56.lane 0 with buffer := samples56 }) 640068

/-- The table of section 5.6: correlations, peak, energy, test. -/
theorem test_search_sums :
    (heard56.lane 0).candidates.map (heard56.lane 0).correlation =
        [⟨-1048576, 524288⟩, ⟨0, 0⟩, ⟨6291456, 0⟩, ⟨12623872, 163840⟩, ⟨4194304, 0⟩] ∧
      (heard56.lane 0).candidates.map (heard56.lane 0).candidateEnergy = [917504, 0, 2359296, 9512224, 1048576] ∧
      (heard56.lane 0).peak = 1 ∧ (heard56.lane 0).detects = true ∧
      { heard56.lane 0 with cls := { class56 with rho := 16 } }.detects = false := by decide +kernel

/-- Detection: o* = +1, preamble energy 1,189,028, TRAINING. -/
theorem test_searchEnd_measures :
    ((after (.searchEnd 0) heard56).lane 0).measurement = some ⟨1, 1189028⟩ ∧
      ((after (.searchEnd 0) heard56).lane 0).state = .training := by decide +kernel

/-- The silent station: NO_PREAMBLE, CLOSING. -/
theorem test_searchEnd_of_silence :
    ((after (.searchEnd 0) (atTick opened56 640068)).lane 0).state = .closing ∧
      (((after (.searchEnd 0) (atTick opened56 640068)).lane 0).record.map (·.outcome)) = some .noPreamble := by
  decide +kernel

/-! ### Chapter 6: the worked symbol of section 6.10 and the indices of section 6.11 -/

/-- A lane TRACKING a 16QAM grant, its next symbol 8 (main input at position 32) with the input of symbol 7 before it,
and the input of symbol 14 still to arrive. -/
def lane610 : Lane :=
  { Lane.idle with
    state := .tracking, channel := 0, cls := { class56 with muTrack := 16 }, grant := grant56, nextPos := 8
    measurement := some ⟨0, 0⟩, firstPos := 28
    vec := (defaultVector.set 7 ⟨.ofInt 16 (-3277), 1638⟩)
    buffer := [⟨800, 400⟩, ⟨0, 0⟩, ⟨0, 0⟩, ⟨0, 0⟩, ⟨1200, .ofInt 12 (-900)⟩] ++ List.replicate 23 ⟨0, 0⟩
    member := ⟨2600000, 36700160, 14⟩, chain := ⟨2600000, 36700160, 14⟩ }

def state610 : State := (state56 640000).setLane 0 lane610

/-- The sample that completes the symbol: decision (512, −512), the sums, the new taps 6 and 7. -/
theorem test_sampleArrival_decides_a_symbol :
    (((after (.sampleArrival 0 0 0) state610).lane 0).symbols, ((after (.sampleArrival 0 0 0) state610).lane 0).member) =
        ([⟨8, 2, 1, 388688, 524288⟩], ⟨2988688, 37224448, 15⟩) ∧
      ((after (.sampleArrival 0 0 0) state610).lane 0).vec =
        (lane610.vec.set 6 ⟨16370, 0⟩).set 7 ⟨.ofInt 16 (-3281), 1646⟩ ∧
      ((after (.sampleArrival 0 0 0) state610).lane 0).saturated = false := by decide +kernel

/-- The output before the decision is (1000, −900). -/
theorem test_filter_output : equalized (lane610.accumulate 8) = ⟨1000, -900⟩ := by decide +kernel

theorem test_mer_index_alone :
    [merIndex 3100000 400000000, merIndex 0 83886080, merIndex 0 0, merIndex 5000000 4194304, merIndex 4194304 4194304,
      merIndex 1048576 4194304, merIndex 1 2147483648] = [7, 31, 31, 0, 0, 2, 31] := by decide +kernel

theorem test_mer_index_of_the_chain :
    [merIndex 1000000 146800640, merIndex 2500000 104857600, merIndex 3500000 251658240, merIndex 500000 83886080] =
      [7, 5, 6, 7] := by decide +kernel

/-! ### Chapter 7: the worked sequence of section 7.6 -/

/-- Profiles 12 and 30 are bound, 30 STALE. -/
def state76 : State :=
  { synced 0 with
    profiles := ((synced 0).profiles.set 12 { Profile.free with state := .bound, key := some ⟨3900, 2⟩ }).set 30
      { Profile.free with state := .stale, age := 10, key := some ⟨4500, 1⟩ }
    directory := [⟨⟨3900, 2⟩, 12⟩, ⟨⟨4500, 1⟩, 30⟩] }

def bind76 (station profile limit : Nat) : List Byte := writeProfileBind ⟨station, 2, profile, limit, false⟩

/-- Steps 1 and 2: CLAMPED with revert limit 7, then EXISTS. -/
theorem test_profileBind_clamps_then_exists :
    lastStatus (after (.profileBind 0 (bind76 4021 17 9)) state76) = some .clamped ∧
      ((after (.profileBind 0 (bind76 4021 17 9)) state76).prof 17).revertLimit = 7 ∧
      lastStatus (after (.profileBind 0 (bind76 4021 18 3)) (after (.profileBind 0 (bind76 4021 17 9)) state76)) =
        some .keyExists := by decide +kernel

/-- Step 3: IN_USE. -/
theorem test_profileBind_in_use :
    lastStatus (after (.profileBind 0 (bind76 4022 17 3)) (after (.profileBind 0 (bind76 4021 17 9)) state76)) =
      some .inUse := by decide +kernel

/-- After step 5, profile 17 has age 6 and profile 18 age 3. -/
def aged76 : State :=
  let s := after (.profileBind 0 (bind76 4022 18 3)) (after (.profileBind 0 (bind76 4021 17 9)) state76)
  (s.setProf 17 { s.prof 17 with age := 6 }).setProf 18 { s.prof 18 with age := 3 }

/-- The four entries after step 4. -/
theorem test_directoryGet_lists_in_order :
    lastFields (after (.directoryGet 0 (writeDirectoryGet 0 0)) aged76) =
      [4, 0] ++ [0x0F, 0x3C, 2, 0, 12, 1] ++ [0x0F, 0xB5, 2, 0, 17, 1] ++ [0x0F, 0xB6, 2, 0, 18, 1] ++
        [0x11, 0x94, 1, 0, 30, 2] := by decide +kernel

def nodeSet76 (ageLimit : Nat) : List Byte := writeNodeSet ⟨200, 8, 8, 60, ageLimit⟩

/-- Steps 6 and 7, on profile 17: the age limit goes to 4, then to 10. -/
theorem test_nodeSet_aligns_the_ages :
    (let s := ({ aged76 with sweep := ⟨0, 0, false, 60, 4⟩ } : State).alignProfile 17
     ((s.prof 17).state, (s.prof 17).age)) = (.stale, 4) ∧
      (let s := ({ aged76 with sweep := ⟨0, 0, false, 60, 10⟩ } : State).setProf 17
        { aged76.prof 17 with state := .stale, age := 4 }
       (((s.alignProfile 17).prof 17).state, ((s.alignProfile 17).prof 17).age)) = (.stale, 10) := by decide +kernel

/-- The notice follows the response (step 6). -/
theorem test_nodeSet_notice_follows_the_response :
    (after (.nodeSet 5 (nodeSet76 4)) { aged76 with output := OutputQueue.reset }).output.items =
      [.response ⟨5, 0x02, .ok, []⟩, .notice ⟨.profileStale 17 (some ⟨4021, 2⟩), false, 0⟩] := by decide +kernel

/-- Profile 17 held by lane 4. -/
def held76 : State :=
  (aged76.setProf 17 { aged76.prof 17 with holder := some 4 }).setLane 4
    { lane610 with role := .holder 17, channel := 2 }

def unbound76 : State := after (.profileUnbind 0 (writeProfileUnbind 4021 2)) held76

/-- Step 12: RETIRING, holder kept, entry removed. -/
theorem test_profileUnbind_retires :
    ((unbound76.prof 17).state, (unbound76.prof 17).holder, unbound76.directory.length) = (.retiring, some 4, 3) := by
  decide +kernel

/-- Step 13: REVERT, and as well CLEAR, of a RETIRING profile is refused. -/
theorem test_profileRevert_retiring_is_refused :
    lastStatus (after (.profileRevert 0 (writeProfile 17)) unbound76) = some .notBound ∧
      lastStatus (after (.profileClear 0 (writeProfile 17)) unbound76) = some .notBound := by decide +kernel

/-- Step 14: a PUT to tap 6 of PROFILE CURRENT is taken, and sets the overridden flag. -/
theorem test_putItem_reaches_a_retiring_profile :
    ((after .putItem (putting unbound76 ⟨.profileCurrent, 0, 17 * 24 + 6⟩ (.coefficient ⟨5, 9⟩))).prof 17).current[6] =
        ⟨5, 9⟩ ∧
      ((after .putItem (putting unbound76 ⟨.profileCurrent, 0, 17 * 24 + 6⟩ (.coefficient ⟨5, 9⟩))).prof 17).overridden =
        true := by decide +kernel

/-- Section 7.4 and R144: the default visit interval. -/
theorem test_visit_interval : visitInterval 60 = 4000000 ∧ Sweep.reset.nextVisit = 4000000 := by decide +kernel

/-- The visit that reaches the age limit: STALE (R139), the pointer past 17. -/
theorem test_sweepVisit_makes_stale :
    (let s := after .sweepVisit { aged76 with sweep := ⟨17, 0, true, 60, 7⟩ }
     ((s.prof 17).state, (s.prof 17).age, s.sweep.pointer, s.sweep.nextVisit)) = (.stale, 7, 18, 4000000) := by
  decide +kernel

/-! ### Chapter 8: the worked recentring of section 8.9 -/

def vector89 : CoefVector :=
  (((((((Vector.replicate 24 Coef.zero).set 0 ⟨40, 12⟩).set 5 ⟨300, .ofInt 16 (-120)⟩).set 6 ⟨9800, 2100⟩).set 7
    ⟨6400, .ofInt 16 (-5200)⟩).set 8 ⟨10020, .ofInt 16 (-600)⟩).set 9 ⟨.ofInt 16 (-2500), 1900⟩).set 23
    ⟨.ofInt 16 (-64), 30⟩

/-- D = 8, s = 2, a = 1, b' = 6, RECENTRED and BIAS_LIMIT. -/
theorem test_recentring_at_the_limit :
    recentreOf vector89 5 = ⟨8, 2, 1⟩ ∧ newBias 5 2 = 6 ∧
      (RecordFlags.clear.withRecentre (recentreOf vector89 5)).recentred = true ∧
      (RecordFlags.clear.withRecentre (recentreOf vector89 5)).biasLimit = true := by decide +kernel

/-- The shifted vector: tap 7 holds the dominant coefficient, tap 23 is (0, 0). -/
theorem test_recentring_shifts_the_vector :
    [(shiftVector vector89 1)[4], (shiftVector vector89 1)[7], (shiftVector vector89 1)[22], (shiftVector vector89 1)[23]] =
      [⟨300, .ofInt 16 (-120)⟩, ⟨10020, .ofInt 16 (-600)⟩, ⟨.ofInt 16 (-64), 30⟩, ⟨0, 0⟩] := by decide +kernel

/-! ### Chapter 9: list lengths of section 9.7 -/

/-- 40 symbols of 64QAM are 30 bytes (5,000 are 3,750); the I index stands above the Q index. -/
theorem test_symbol_list_packs :
    (packSymbols .qam64 (List.replicate 40 (7, 0))).length = 30 ∧ packSymbols .qam64 [(7, 0)] = [0xE0] := by
  decide +kernel

/-! ### Chapter 10: the worked transaction of section 10.5 -/

/-- The state before it: profile 17 BOUND, the pointer anywhere. -/
def seek105 : State := after (.tableSeek 0x40 [2, 0, 0x01, 0xAC]) state76

/-- Index 17 × 24 + 20 = 428. -/
theorem test_tableSeek_sets_the_pointer :
    seek105.link.pointer = ⟨.profileCurrent, 0, 428⟩ ∧ lastStatus seek105 = some .ok := by decide +kernel

def coefs105 : List PutItem := List.replicate 6 (.coefficient ⟨3, 4⟩)

/-- Six items one by one. -/
def put105 (s : State) : State :=
  after .putItem (after .putItem (after .putItem (after .putItem (after .putItem (after .putItem
    (after (.tablePut 0x41 (writeTablePut coefs105)) s))))))

/-- OK, count 6, table 2, index 434: the last two items are taps 0 and 1 of profile 18. -/
theorem test_tablePut_crosses_a_profile :
    lastStatus (put105 seek105) = some .ok ∧ lastFields (put105 seek105) = [6, 2, 0, 0x01, 0xB2] ∧
      ((put105 seek105).prof 18).current[1] = ⟨3, 4⟩ := by decide +kernel

/-- From index 9,213: END_REACHED, count 3, index 9,216. -/
theorem test_tablePut_reaches_the_end :
    (let s := put105 (after (.tableSeek 0x40 [2, 0, 0x23, 0xFD]) state76)
     (lastStatus s, lastFields s)) = (some .endReached, [3, 2, 0, 0x24, 0x00]) := by decide +kernel

/-- The GET of three items from 434: start index, count, three coefficients; the pointer ends at 437. -/
theorem test_tableGet_reads_three :
    (let s := after .getItem (after .getItem (after .getItem (after (.tableGet 0x42 [3]) (put105 seek105))))
     (lastStatus s, lastFields s, s.link.pointer.index)) =
      (some .ok, [2, 0, 0x01, 0xB2, 3] ++ List.replicate 12 0, 437) := by decide +kernel

/-- At the end of the table a GET returns nothing, with END_REACHED. -/
theorem test_tableGet_at_the_end :
    (let s := after (.tableGet 0x42 [3]) { state76 with link := { NodeLink.reset with pointer := ⟨.profileCurrent, 0, 9216⟩ } }
     (lastStatus s, lastFields s)) = (some .endReached, [2, 0, 0x24, 0x00, 0]) := by decide +kernel

/-- The check value that the Ethernet check sequence gives the nine digits 1 .. 9. -/
theorem test_check_sequence : crc32 [0x31, 0x32, 0x33, 0x34, 0x35, 0x36, 0x37, 0x38, 0x39] = 0xCBF43926 := by
  decide +kernel

/-- A frame of the worked transaction's SEEK: accepted, its message held, the headend's address recorded. -/
theorem test_frameReceived_holds_its_message :
    (let s := after (.frameReceived (writeFrame 0x020000000001 0x020000000002 0
        (writeMessage ⟨0x28, 0x40, [2, 0, 0x01, 0xAC]⟩))) state76
     (s.link.inbound, s.link.headend)) =
      ([⟨46, [⟨0x28, 0x40, [2, 0, 0x01, 0xAC]⟩]⟩], some 0x020000000002) := by decide +kernel

/-- A response of 6 bytes goes out in a frame of 46 payload bytes (section 10.1). -/
theorem test_frameSend_sends_the_response :
    (let s := after .frameSend { seek105 with link := { seek105.link with headend := some 2, own := some 4 } }
     (s.output.items, (s.output.sentFrame.drop 14).take 9, s.output.sentFrame.length)) =
      ([], [0, 0, 0x81, 0x40, 0, 6, 0x28, 0, 0], 64) := by decide +kernel

/-- A STATUS GET held for room, behind one response that waits to be sent. -/
def waiting105 : State :=
  { seek105 with link := { seek105.link with headend := some 2, own := some 4, holding := true,
                                             inbound := [⟨46, [⟨kindStatusGet, 7, []⟩]⟩] } }

/-- The frame that makes the room lets the held request be answered in the same event (R179, R188). -/
theorem test_frameSend_passes_the_held_request_on :
    (let s := after .frameSend waiting105
     (s.link.holding, s.link.inbound, s.output.items.length, (lastFields s).length)) = (false, [], 1, 38) := by
  decide +kernel

/-! ### Events that the worked sequences name in passing -/

/-- Section 4.12: A carries CHAIN and ends at 3,200,320, B begins there and holds the link mark. -/
def grantA : QueuedGrant :=
  { grant := ⟨905, 100000, 10, 2, false, true, false⟩, startTick := 3200000, armTick := 3199744, endTick := 3200320,
    dataCount := 56, link := false, armReached := false }

def grantB : QueuedGrant :=
  { grant := ⟨905, 100010, 6, 2, false, false, false⟩, startTick := 3200320, armTick := 3200064, endTick := 3200512,
    dataCount := 24, link := true, armReached := false }

def class412 : ClassEntry :=
  { valid := true, modulation := .qam16, preamble := 1, lp := 16, w := 8, rho := 10, muTrain := 12, muTrack := 16,
    guardLen := 8, gate := 6, floor := 5000 }

/-- Lane 7 TRACKING A at its end tick, holder of profile 40, with a queue of channel 5. -/
def lane412 : Lane :=
  { Lane.idle with
    state := .tracking, grant := grantA, channel := 5, cls := class412, offset := 3, role := .holder 40, nextPos := 73
    measurement := some ⟨4, 2000000⟩, lcorr := 16, endReached := true, symbols := [⟨71, 1, 2, 10, 524288⟩]
    member := ⟨1000000, 146800640, 56⟩, chain := ⟨1000000, 146800640, 56⟩ }

def state412 (queue : List QueuedGrant) : State :=
  { (synced 3200320).setLane 7 lane412 with
    channels := (synced 0).channels.set 5 { Channel.reset with
      state := .running, rate := .msym6_4, spm := .sym8, lock := .locked
      classes := Channel.reset.classes.set 2 class412, queue := queue }
    patterns := (synced 0).patterns.set 1 (List.replicate 32 3)
    profiles := (synced 0).profiles.set 40
      { Profile.free with state := .bound, key := some ⟨905, 5⟩, offset := 3, holder := some 7 }
    directory := [⟨⟨905, 5⟩, 40⟩] }

/-- A's end tick: A's record leaves, COMPLETE and LINKED with n = 56; the lane goes on with B at position 80. -/
theorem test_endEvent_continues_the_chain :
    (lastRecord (after (.endEvent 7) (state412 [grantB]))).map (fun r => (r.outcome, r.flags.linked, r.gate)) =
        some (.complete, true, none) ∧
      (lastRecord (after (.endEvent 7) (state412 [grantB]))).map (fun r => r.sums.map (·.n)) = some (some 56) ∧
      ((after (.endEvent 7) (state412 [grantB])).lane 7).base = 80 ∧
      (after (.endEvent 7) (state412 [grantB])).queue 5 = [] := by decide +kernel

/-- B as a grant of its own, its arm tick reached. -/
def alone412 : QueuedGrant := { grantB with link := false, armReached := true }

/-- Without a linked head the lane enters CLOSING with outcome COMPLETE; a head that is due waits for its own arming
(R50, R68). -/
theorem test_endEvent_closes_the_lane :
    (let s := after (.endEvent 7) (state412 [alone412])
     ((s.lane 7).state, (s.lane 7).record.map (·.outcome), s.output.items, s.queue 5)) =
      (.closing, some .complete, [], [alone412]) := by decide +kernel

/-- Lane 7 after the 128th sample in CLOSING. -/
def closed412 : State :=
  let s := after (.endEvent 7) (state412 [])
  s.setLane 7 { s.lane 7 with closeCount := 128, chain := ⟨3500000, 251658240, 96⟩ }

/-- The close completion judges the chain's 96 symbols, index 6 at threshold 6: PASS, c = 4, holder released, FREE. -/
theorem test_closeCompletion_judges_the_chain :
    (let s := after (.closeCompletion 7) closed412
     ((lastRecord s).map (·.gate), (s.prof 40).lastMer, (s.prof 40).offset, (s.prof 40).holder, (s.lane 7).state)) =
      (some (some .pass), some 6, 4, none, .free) := by decide +kernel

/-- Section 2.8, step 9: the loss aborts the TRACKING lane with cause INPUT_LOST, and B, linked, falls back to NO_INPUT. -/
theorem test_inputLockLost_aborts_and_falls_back :
    (let s := after (.inputLockLost 5) (state412 [grantB])
     (s.output.items.map (fun x => match x with
       | .record r => (r.outcome, r.cause)
       | _ => (.complete, none)), (s.lane 7).state, (s.prof 40).holder)) =
      ([(.aborted, some .inputLost), (.noInput, none)], .free, none) := by decide +kernel

theorem test_inputLockLocked_restores_the_lock :
    ((after (.inputLockLocked 5) (after (.inputLockLost 5) (state412 []))).chan 5).lock = .locked := by decide +kernel

/-- Section 2.8, the end: CHANNEL HALT of a channel with one queued grant reports 1 flushed, and it is READY. -/
theorem test_channelHalt_reports_the_flushed :
    (let s := after (.channelHalt 0 [5]) (state412 [grantB])
     (lastStatus s, lastFields s, (s.chan 5).state, (s.lane 7).state)) = (some .ok, [1], .ready, .free) := by
  decide +kernel

/-- Section 2.8, step 11: STOPPING while the queue holds a grant. -/
theorem test_channelStop_waits :
    ((after (.channelStop 0 [5]) (state412 [grantB])).chan 5).state = .stopping ∧
      ((after (.channelStop 0 [1]) (state33 0 0)).chan 1).state = .ready := by decide +kernel

/-- The STATUS GET response is 44 bytes long (section 10.6); the counter stands at offset 1 of its fields. -/
theorem test_statusGet_fields :
    (let s := after (.statusGet 7 []) (state33 0x01020304 2)
     (lastFields s).length = 38 ∧ (lastFields s).take 11 = [1, 1, 2, 3, 4, 0, 0, 0, 2, 2, 0]) := by decide +kernel

/-- RESET NODE: answered, UNSYNCED, channels OFF, the profile kept without its holder (R195, R145). -/
theorem test_resetNode :
    (let s := after (.resetNode 1 []) (state412 [grantB])
     (lastStatus s, s.timebase.sync, (s.chan 5).state, s.queue 5, (s.prof 40).state, (s.prof 40).holder)) =
      (some .ok, .unsynced, .off, [], .bound, none) := by decide +kernel

/-- A kind that is not an inbound kind (R186). -/
theorem test_unknownKind_is_answered : lastStatus (after (.unknownKind 0x81 3 [0, 0]) (synced 0)) = some .unknownKind := by
  decide +kernel

/-! ### Witnesses: for each statement, states and operands that meet its hypotheses -/

theorem ready_exactly (t n : Nat) (m : Message) (h : n ≤ 262138) :
    ({ synced t with output := queueWithRoom n } : State).Ready m n :=
  ready_of ⟨rfl, rfl, rfl, (queueWithRoom_room n h).ge⟩

theorem witness_StepRunsTheFrontCommand :
    ({ State.reset with pending := [.tick, .frameSend] } : State).pending = .tick :: [.frameSend] ∧
      State.reset.pending = [] := ⟨rfl, rfl⟩

theorem witness_CommandsLeaveTheWaitingOnes : exec .tick State.reset = .next (after .tick State.reset) := rfl

theorem witness_SendableCommandsComplete :
    WellFormed .tick = true ∧ WellFormed (.unknownKind 0x30 0 []) = false := by decide

theorem witness_ResetHoldsTheTimebaseDefaults : (after .resetNAssert State.reset).resetHeld = true := rfl

/-- A counter, the ticks it reaches, a lane that is FREE and one that is not, a queued grant. -/
theorem witness_TickAdvancesTheCounter :
    (∃ reached : Tick → Bool, ∀ x, reached x = !decide (1 ≤ (x - 5).toNat ∧ (x - 5).toNat ≤ 2 ^ 31 - 1)) ∧
      (state412 [grantB]).setCounter 5 = atTick (state412 [grantB]) 5 ∧ (state412 [grantB]).resetHeld = false ∧
      ((state412 [grantB]).lane 0).state = .free ∧ ((state412 [grantB]).lane 7).state ≠ .free ∧
      (state412 [grantB]).queue 5 = [grantB] :=
  ⟨⟨_, fun _ => rfl⟩, rfl, by decide +kernel⟩

theorem witness_OnlyReleaseAndLocksActInReset :
    (after .resetNAssert (state412 [])).resetHeld = true ∧ WellFormed (.inputLockLost 5) = true := by decide +kernel

/-- One message, and a payload of 1,500 bytes. -/
theorem witness_GoodFramesJoinTheInboundBuffer :
    (synced 0).resetHeld = false ∧ isGroupAddress 0x020000000001 = false ∧ [(⟨0x30, 1, []⟩ : Message)] ≠ [] ∧
      (∀ m ∈ [(⟨0x30, 1, []⟩ : Message)], m.kind ≠ 0#8) ∧
      ([(⟨0x30, 1, []⟩ : Message)].flatMap writeMessage).length ≤ 1498 ∧
      (synced 0).link.held + max 46 (([(⟨0x30, 1, []⟩ : Message)].flatMap writeMessage).length + 2) ≤ 16384 := by
  decide +kernel

/-- A wrong check sequence; each reason of the second clause; another link type. -/
theorem witness_BadFramesAreDiscarded :
    (synced 0).resetHeld = false ∧ ([0, 0, 0, 0] : List Byte).length = 4 ∧ ([0, 0, 0, 0] : List Byte) ≠ checkBytes [1] ∧
      isGroupAddress 0x010000000000 = true ∧ (1 : Nat) ≠ 0 ∧
      16384 < ({ synced 0 with link := { NodeLink.reset with inbound := [⟨16339, [⟨0x30, 1, []⟩]⟩] } } : State).link.held +
        max 46 (([] : List Byte).length + 2) ∧
      (0x0800 : Nat) ≠ 0xB6E1 := by decide +kernel

/-- Nothing held, and a STATUS GET held. -/
theorem witness_FramesSendTheOutputAsAStream :
    (let s : State := { seek105 with link := { seek105.link with headend := some 2, own := some 4 } }
     s.resetHeld = false ∧ s.link.headend = some 2 ∧ s.link.own = some 4 ∧ s.output.items ≠ [] ∧ s.link.holding = false) ∧
    waiting105.link.holding = true ∧ waiting105.link.head = some ⟨kindStatusGet, 7, []⟩ ∧
      (Instr.statusGet 7 []).message = some ⟨kindStatusGet, 7, []⟩ ∧ WellFormed (.statusGet 7 []) = true := by
  decide +kernel

/-- Field values at their limits, and an item of each table. -/
theorem witness_RequestBodiesReadBack :
    (∃ n : NodeSettings, n.markTimeout < 65536 ∧ n.holdoverLimit < 65536 ∧ n.stepTolerance < 65536 ∧
      n.ageingPeriod < 65536 ∧ n.ageLimit < 256) ∧
    (∀ g ∈ [g1, g3], 1 ≤ g.station ∧ g.station ≤ 16383 ∧ 1 ≤ g.length ∧ g.length ≤ 255) ∧
    (PutItem.classEntry class56).Fits ∧ (PutItem.classEntry class56).OfTable .classes ∧
    (PutItem.pattern []).Fits ∧ (PutItem.pattern (List.replicate 64 3)).Fits ∧
    (PutItem.pattern []).OfTable .preambles ∧ (PutItem.coefficient ⟨3, 4⟩).Fits ∧
    (PutItem.coefficient ⟨3, 4⟩).OfTable .profilePrevious ∧ (PutItem.profileFields (-32768) (-128) 255).Fits ∧
    (PutItem.profileFields (-32768) (-128) 255).OfTable .profileMeta :=
  ⟨⟨⟨65535, 65535, 65535, 65535, 255⟩, by decide⟩, by decide +kernel, by simp [PutItem.Fits, class56], rfl,
   .inl rfl, .inr (by simp), rfl, trivial, .inr rfl, by simp [PutItem.Fits], rfl⟩

theorem witness_BadMessagesAreAnswered :
    ((0x81 : Byte) ≠ 0#8 ∧ (0x81 : Byte) ∉ inboundKinds ∧ ([1] : List Byte).length ≤ 1494 ∧
      ({ synced 0 with output := queueWithRoom 6 } : State).Ready ⟨0x81, 0, [1]⟩ 6) ∧
    (Instr.nodeSet 2 [1]).message = some ⟨kindNodeSet, 2, [1]⟩ ∧ WellFormed (.nodeSet 2 [1]) = true ∧
      kindNodeSet ∈ inboundKinds ∧ (Instr.nodeSet 2 [1]).readable (synced 0).link.pointer.table = false ∧
      ({ synced 0 with output := queueWithRoom 6 } : State).Ready ⟨kindNodeSet, 2, [1]⟩ 6 := by
  and_intros <;> first | exact ready_exactly 0 6 _ (by decide) | decide +kernel

/-- A PUT under way; another message at the head; a good request with one byte too little room; a bad one with 5. -/
theorem witness_MessagesWaitForTheirTurnAndRoom :
    (Instr.statusGet 2 []).message = some ⟨kindStatusGet, 2, []⟩ ∧ WellFormed (.statusGet 2 []) = true ∧
    (synced 0).resetHeld = false ∧
    (⟨46, [⟨kindStatusGet, 2, []⟩]⟩ : InboundFrame) = ⟨max 46 (([] : List Byte).length + 6), [⟨kindStatusGet, 2, []⟩]⟩ ∧
    (putting (synced 0) ⟨.classes, 0, 0⟩ (.pattern [])).link.transfer ≠ none ∧
    (let s : State := { synced 0 with link := { NodeLink.reset with inbound := [⟨46, [⟨0x03, 9, []⟩]⟩] } }
     s.link.inbound ≠ [] ∧ s.link.head ≠ some ⟨kindStatusGet, 2, []⟩) ∧
    (synced 0).link.transfer = none ∧ (synced 0).link.inbound = [] ∧
    ((Instr.statusGet 2 []).readable .classes = true ∧ (queueWithRoom 43).room < (Instr.statusGet 2 []).responseRoom) ∧
    ((Instr.statusGet 2 [1]).readable .classes = false ∧ (queueWithRoom 5).room < 6) := by
  rw [queueWithRoom_room 43 (by decide), queueWithRoom_room 5 (by decide)]
  decide +kernel

theorem witness_FirstMarkLoadsTheCounter :
    State.reset.Ready ⟨kindTimeMark, 0, writeTimeMark 3000000000⟩ 0 ∧ State.reset.timebase.sync = .unsynced :=
  ⟨ready_of (by decide +kernel), rfl⟩

/-- d = +8, −8 and 0 at the default tolerance of 8, in SYNCED and in HOLDOVER, with the counter each leaves. -/
theorem witness_NearMarkMovesOneTick :
    (synced 1000).Ready ⟨kindTimeMark, 0, writeTimeMark 1008⟩ 0 ∧
    (holding 1000 5).Ready ⟨kindTimeMark, 0, writeTimeMark 992⟩ 0 ∧
    (let d (T : Tick) (s : State) := (T - s.timebase.counter).toInt
     (synced 1000).timebase.sync ≠ .unsynced ∧ (holding 1000 5).timebase.sync ≠ .unsynced ∧
     (d 1008 (synced 1000)).natAbs ≤ 8 ∧ (d 992 (holding 1000 5)).natAbs ≤ 8 ∧ (synced 1000).timebase.stepTolerance = 8 ∧
     0 < d 1008 (synced 1000) ∧ d 992 (holding 1000 5) < 0 ∧ d 1000 (synced 1000) = 0) :=
  ⟨ready_of (by decide +kernel), ready_of (by decide +kernel), by decide +kernel⟩

/-- A grant behind B in channel 5, its arm tick far ahead. -/
def later412 : QueuedGrant :=
  { grantB with startTick := 3300320, armTick := 3300064, endTick := 3300512, link := false }

/-- d = +9, −9 and −2^31, with lanes to abort, in SYNCED and in HOLDOVER; a forward step behind which a head remains, and
one by which it arms. -/
theorem witness_FarMarkStepsTheCounter :
    (state412 [grantB]).Ready ⟨kindTimeMark, 0, writeTimeMark 3200329⟩ 0 ∧
    (let far (s : State) (T : Tick) :=
       s.timebase.sync ≠ .unsynced ∧ s.timebase.stepTolerance < (T - s.timebase.counter).toInt.natAbs
     far (state412 [grantB]) 3200329 ∧ far (state412 [grantB]) 3200311 ∧ far (holding 0 0) 2147483648) ∧
    ((state412 [grantB]).lane 7).abortEmits ((state412 [grantB]).chan 5).disposition = true ∧
    (let t (T : Tick) := after (.timeMark 0 (writeTimeMark T)) (state412 [grantB, later412])
     0 < (3200329 - (state412 [grantB, later412]).timebase.counter).toInt ∧ (t 3200329).queue 5 = later412 :: [] ∧
       (t 3300064).queue 5 = []) :=
  ⟨ready_of (by decide +kernel), by decide +kernel, by decide +kernel, by decide +kernel⟩

/-- At the deadline, and one tick before it. -/
theorem witness_MarkTimeoutEntersHoldover :
    (let s := atTick (synced 3005120130) 3010240130
     s.resetHeld = false ∧ s.timebase.sync = .synced ∧
       s.reached (s.timebase.lastMark + BitVec.ofNat 32 (s.timebase.markTimeout * 25600)) = true) ∧
    (let s := atTick (synced 3005120130) 3010240129
     s.reached (s.timebase.lastMark + BitVec.ofNat 32 (s.timebase.markTimeout * 25600)) = false) ∧
    State.reset.timebase.sync ≠ .synced := by decide +kernel

/-- At the deadline, with a RUNNING channel whose lane receives or stands in CLOSING, and channels that are OFF. -/
theorem witness_HoldoverLimitHaltsActiveChannels :
    (let s : State := { state412 [grantB] with timebase := (holding 109832704 4200000000).timebase }
     s.resetHeld = false ∧ s.timebase.sync = .holdover ∧
       s.reached (s.timebase.holdoverStart + BitVec.ofNat 32 (s.timebase.holdoverLimit * 25600000)) = true ∧
       (s.chan 5).state = .running ∧ s.serves 7 5 = true ∧ (s.chan 0).state = .off ∧
       (s.lane 7).abortEmits (s.chan 5).disposition = true) ∧
    (closed412.lane 7).state = .closing ∧ (closed412.lane 7).record.isSome = true ∧ closed412.serves 7 5 = true := by
  decide +kernel

/-- The state of section 7.6 in another sync state, at a counter. -/
def aged76In (x : SyncState) (t : Nat) : State :=
  { aged76 with timebase := { aged76.timebase with sync := x, counter := BitVec.ofNat 32 t } }

/-- Settings at and beyond their limits, in each sync state; a deadline that the new mark timeout of 20 ms, and one that
the new holdover limit of 1 s, leave reached; an age limit that changes, one that does not, and one that a profile's age
equals. -/
theorem witness_NodeSetStoresClampedSettings :
    (∀ x, (aged76In x 512000).Ready ⟨kindNodeSet, 0, writeNodeSet ⟨19, 0, 256, 0, 6⟩⟩ 6) ∧
    (⟨20, 1, 255, 1, 6⟩ : NodeSettings) =
      { markTimeout := max 20 (min 1000 19), holdoverLimit := max 1 (min 60 0), stepTolerance := min 255 256,
        ageingPeriod := max 1 (min 3600 0), ageLimit := max 1 (min 15 6) } ∧
    (let s := aged76In .synced 512000
     s.reached (s.timebase.lastMark + BitVec.ofNat 32 (200 * 25600)) = false ∧
       s.reached (s.timebase.lastMark + BitVec.ofNat 32 (20 * 25600)) = true) ∧
    (let s := aged76In .holdover 25600000
     s.reached (s.timebase.holdoverStart + BitVec.ofNat 32 (8 * 25600000)) = false ∧
       s.reached (s.timebase.holdoverStart + BitVec.ofNat 32 (1 * 25600000)) = true) ∧
    (6 : Nat) ≠ aged76.sweep.ageLimit ∧ (10 : Nat) = aged76.sweep.ageLimit ∧
    (aged76.prof 17).state = .bound ∧ 6 ≤ (aged76.prof 17).age ∧ (aged76.prof 18).age < 6 ∧
      (aged76.prof 30).state = .stale :=
  ⟨fun x => ready_of ⟨rfl, rfl, by cases x <;> decide +kernel⟩, by decide, by decide +kernel⟩

theorem witness_ResetNodeClearsTheReception :
    (state412 [grantB]).Ready ⟨kindResetNode, 0, []⟩ 6 ∧
      ({ synced 0 with output := queueWithRoom 6 } : State).Ready ⟨kindResetNode, 0, []⟩ 6 :=
  ⟨ready_of (by decide +kernel), ready_exactly 0 6 _ (by decide)⟩

theorem witness_StatusReportsTheState :
    (state412 [grantB]).Ready ⟨kindStatusGet, 0, []⟩ 44 ∧
      ({ synced 0 with output := queueWithRoom 44 } : State).Ready ⟨kindStatusGet, 0, []⟩ 44 :=
  ⟨ready_of (by decide +kernel), ready_exactly 0 44 _ (by decide)⟩

/-- Channels 6 and 255. -/
theorem witness_RequestsOutsideTheChannelsAreRefused :
    6 ≤ (6 : Nat) ∧ (255 : Nat) < 256 ∧
    (synced 0).Ready ⟨kindChannelSet, 0, writeChannelSet ⟨6, .msym1_6, .sym8, .header, 0⟩⟩ 6 ∧
    (synced 0).Ready ⟨kindChannelStart, 0, writeChannel 6⟩ 6 ∧ (synced 0).Ready ⟨kindChannelStop, 0, writeChannel 255⟩ 6 ∧
    (synced 0).Ready ⟨kindChannelHalt, 0, writeChannel 6⟩ 7 ∧
    (1 ≤ g1.station ∧ g1.station ≤ 16383 ∧ 1 ≤ g1.length ∧ g1.length ≤ 255) ∧
    (synced 0).Ready ⟨kindSchedule, 0, writeSchedule 6 [g1]⟩ 8 := by
  and_intros <;> first | exact ready_of (by decide +kernel) | decide

/-- An OFF, a READY, a RUNNING and a STOPPING channel. -/
def stateOf (x : ChannelState) : State :=
  { synced 0 with channels := (synced 0).channels.set 5 { Channel.reset with state := x } }

theorem stateOf_ready (x : ChannelState) (m : Message) {room : Nat} (h : room ≤ 1000) : (stateOf x).Ready m room :=
  ready_of ⟨rfl, rfl, rfl, h.trans (by cases x <;> decide +kernel)⟩

theorem witness_ChannelSetReplacesTheSettings :
    (∀ x, (stateOf x).Ready ⟨kindChannelSet, 0, writeChannelSet ⟨5, .msym6_4, .sym64, .silent, 7⟩⟩ 6) ∧
    (⟨5, .msym6_4, .sym64, .silent, 7⟩ : ChannelSettings).channel = (5 : Fin 6).val ∧
    ∀ x, ((stateOf x).chan 5).state = x :=
  ⟨fun x => stateOf_ready x _ (by decide), rfl, fun _ => rfl⟩

theorem witness_ChannelStartRunsAReadyChannel :
    ∀ x, (stateOf x).Ready ⟨kindChannelStart, 0, writeChannel (5 : Fin 6).val⟩ 6 :=
  fun x => stateOf_ready x _ (by decide)

/-- RUNNING and empty; RUNNING with a queue, with a lane; the other states. -/
theorem witness_ChannelStopDrainsAChannel :
    (∀ x, (stateOf x).Ready ⟨kindChannelStop, 0, writeChannel (5 : Fin 6).val⟩ 6) ∧
    (state412 []).Ready ⟨kindChannelStop, 0, writeChannel (5 : Fin 6).val⟩ 6 ∧
    ((stateOf .running).chan 5).state = .running ∧ (stateOf .running).queue 5 = [] ∧
    (∀ l, (stateOf .running).serves l 5 = false) ∧ (state412 [grantB]).queue 5 ≠ [] ∧
    (∃ l, (state412 []).serves l 5 = true) :=
  ⟨fun x => stateOf_ready x _ (by decide), ready_of (by decide +kernel), by decide +kernel⟩

/-- A lane in TRACKING, lanes in ARMED and in CLOSING with a record, lanes of other channels; the other states. -/
theorem witness_ChannelHaltEmptiesAChannel :
    (state412 [grantB]).Ready ⟨kindChannelHalt, 0, writeChannel (5 : Fin 6).val⟩ 7 ∧
    (∀ x, (stateOf x).Ready ⟨kindChannelHalt, 0, writeChannel (5 : Fin 6).val⟩ 7) ∧
    ((state412 [grantB]).chan 5).state = .running ∧ (state412 [grantB]).serves 7 5 = true ∧
    (state412 [grantB]).serves 0 5 = false ∧
    (let s := closed412.setLane 3 { Lane.idle with state := .armed, channel := 5 }
     s.serves 3 5 = true ∧ (s.lane 3).abortEmits .header = true ∧ (s.lane 3).abortEmits .silent = false ∧
       (s.lane 7).state = .closing ∧ (s.lane 7).abortEmits .silent = true ∧ (s.lane 7).record.isSome = true ∧
       s.link.inbound = []) :=
  ⟨ready_of (by decide +kernel), fun x => stateOf_ready x _ (by decide), by decide +kernel⟩

/-- A queue with a predecessor that carries CHAIN (the first grant of a chain, then its successor), an open grant with
CHAIN, no predecessor, and the last free place. -/
theorem witness_AnAcceptedGrantJoinsTheQueue :
    (state33 1200000 47).Ready ⟨kindSchedule, 0, writeSchedule (1 : Fin 6).val [g1]⟩ 8 ∧
    (let s := state33 1200000 47
     (s.chan 1).state = .running ∧ (1 ≤ g1.station ∧ g1.station ≤ 16383 ∧ 1 ≤ g1.length ∧ g1.length ≤ 255) ∧
     (s.chan 1).classes[g1.cls].valid = true ∧ s.patterns[(s.chan 1).classes[g1.cls].preamble] ≠ [] ∧
     (s.chan 1).classes[g1.cls].lp + (s.chan 1).classes[g1.cls].guardLen + 1 ≤ g1.length * (s.chan 1).spm.spm ∧
     s.predecessor 1 = some (tail33, true) ∧ tail33.grant.chain = false ∧ ((1280256 : Tick) - tail33.endTick).toNat < 2 ^ 31 ∧
     s.reached 1280000 = false ∧ (s.queue 1).length < 48 ∧
     (1280256 : Tick) = (s.chan 1).epoch + g1.start * BitVec.ofNat 32 ((s.chan 1).spm.spm * tps (s.chan 1).rate) ∧
     (1280000 : Tick) = 1280256 - BitVec.ofNat 32 (64 * tps (s.chan 1).rate)) ∧
    (state33 1200000 0).predecessor 1 = none ∧ g3.station = 16383 ∧
    (let s := after (.schedule 0 (writeSchedule 1 [g1])) (state33 1200000 44)
     s.predecessor 1 = some ({ grant := g1, startTick := 1280256, armTick := 1280000, endTick := 1280448, dataCount := 30
                               link := false, armReached := false }, true) ∧
     g1.chain = true ∧ g1.station = g2.station ∧ g2.start = g1.start + BitVec.ofNat 32 g1.length) := by
  refine ⟨ready_of ?_, ?_⟩ <;> decide +kernel

/-- One grant for each cause: a channel not RUNNING, an invalid class, an empty pattern, no data symbol, a broken chain,
an order (a start before the predecessor's end, and one 2^31 beyond it), a late arm tick (at the counter), a full queue. -/
theorem witness_SchedulesAreRefusedByTheFirstCause :
    (synced 0).Ready ⟨kindSchedule, 0, writeSchedule (1 : Fin 6).val [g1]⟩ 8 ∧
    (state33 0 0).Ready ⟨kindSchedule, 0, writeSchedule (1 : Fin 6).val [g4]⟩ 8 ∧
    (1 ≤ g1.station ∧ g1.station ≤ 16383 ∧ 1 ≤ g1.length ∧ g1.length ≤ 255) ∧
    ((synced 0).chan 1).state ≠ .running ∧
    ((state33 0 0).chan 1).classes[(2 : Fin 6)].valid = false ∧
    ({ state33 0 0 with patterns := Vector.replicate 8 [] } : State).patterns[class33a.preamble] = [] ∧
    g4.length * ((state33 0 0).chan 1).spm.spm < class33a.lp + class33a.guardLen + 1 ∧
    (let s := after (.schedule 0 (writeSchedule 1 [g1])) (state33 1200000 44)
     ((s.predecessor 1).any fun p => p.1.grant.chain && !decide (p.1.grant.station = g5.station)) = true) ∧
    ahead tail33.endTick 1280192 = true ∧ (1280256 + 2147483648 : Tick) - tail33.endTick = BitVec.ofNat 32 (2 ^ 31) ∧
    (state33 1280000 44).reached 1280000 = true ∧
    48 ≤ ((state33 0 48).queue 1).length := by
  refine ⟨ready_of ?_, ready_of ?_, ?_⟩ <;> decide +kernel

/-- The five grants of section 3.3, of which the fourth is refused, and a list of 32. -/
theorem witness_IntakeStopsAtTheFirstRefusal :
    (state33 1200000 44).Ready ⟨kindSchedule, 0, writeSchedule (1 : Fin 6).val [g1, g2, g3, g4, g5]⟩ 8 ∧
    ((state33 1200000 44).chan 1).state = .running ∧ 1 ≤ [g1, g2, g3, g4, g5].length ∧
    (List.replicate 32 g1).length ≤ 32 ∧
    (∀ g ∈ [g1, g2, g3, g4, g5], 1 ≤ g.station ∧ g.station ≤ 16383 ∧ 1 ≤ g.length ∧ g.length ≤ 255) ∧
    [g1, g2, g3, g4, g5][3]? = some g4 :=
  ⟨ready_of (by decide +kernel), by decide +kernel⟩

/-- Channels 6 and 5, profiles 384 and 383; a key that is present, one that is not, a profile in use. -/
theorem witness_BindTakesAFreeProfile :
    state76.Ready ⟨kindProfileBind, 0, writeProfileBind ⟨1, 6, 384, 0, true⟩⟩ 6 ∧
    state76.Ready ⟨kindProfileBind, 0, writeProfileBind ⟨16382, 5, 383, 255, false⟩⟩ 6 ∧
    (1 ≤ (1 : Nat) ∧ (16382 : Nat) ≤ 16382 ∧ (6 : Nat) < 256 ∧ (384 : Nat) < 65536 ∧ (255 : Nat) < 256) ∧
    6 ≤ (6 : Nat) ∧ (5 : Nat) < 6 ∧ 384 ≤ (384 : Nat) ∧ (5 : Nat) = (5 : Fin 6).val ∧ (383 : Nat) = (383 : Fin 384).val ∧
    (∃ e ∈ state76.directory, e.key = ⟨3900, 2⟩) ∧ (¬ ∃ e ∈ state76.directory, e.key = ⟨16382, 5⟩) ∧
    (state76.prof 12).state ≠ .free ∧ (state76.prof 383).state = .free := by
  refine ⟨ready_of ?_, ready_of ?_, ?_⟩ <;> decide +kernel

/-- Channels 6 and 255; an absent key; a profile that nothing holds; one that a lane holds. -/
theorem witness_UnbindFreesOrRetiresTheProfile :
    (∀ c : Nat, c = 6 ∨ c = 255 → 6 ≤ c ∧ c < 256 ∧
      state76.Ready ⟨kindProfileUnbind, 0, writeProfileUnbind 16382 c⟩ 6) ∧
    state76.Ready ⟨kindProfileUnbind, 0, writeProfileUnbind 1 (0 : Fin 6).val⟩ 6 ∧
    held76.Ready ⟨kindProfileUnbind, 0, writeProfileUnbind 4021 (2 : Fin 6).val⟩ 6 ∧
    (∀ e ∈ state76.directory, e.key ≠ ⟨1, 0⟩) ∧ state76.lookup ⟨3900, 2⟩ = some 12 ∧
    (state76.prof 12).holder = none ∧ (state76.prof 12).claim = none ∧
    held76.lookup ⟨4021, 2⟩ = some 17 ∧ (held76.prof 17).holder ≠ none := by
  refine ⟨fun c h => ⟨by omega, by omega, ready_of ?_⟩, ready_of ?_, ready_of ?_, ?_⟩ <;> decide +kernel

/-- Indices 384 and 383; a FREE, a RETIRING, a BOUND and a STALE profile. -/
theorem witness_RevertAndClearResetTheVector :
    (∀ i < 65536, state76.Ready ⟨kindProfileRevert, 0, writeProfile i⟩ 6 ∧
      state76.Ready ⟨kindProfileClear, 0, writeProfile i⟩ 6) ∧
    unbound76.Ready ⟨kindProfileRevert, 0, writeProfile 17⟩ 6 ∧
    (384 : Nat) < 65536 ∧ (383 : Nat) = (383 : Fin 384).val ∧ (state76.prof 383).state = .free ∧
    (unbound76.prof 17).state = .retiring ∧ (state76.prof 12).state = .bound ∧ (state76.prof 30).state = .stale := by
  refine ⟨fun i _ => ⟨ready_of ?_, ready_of ?_⟩, ready_of ?_, ?_⟩ <;> decide +kernel

/-- From the first key, and from a key that an entry holds; more than 128 entries. -/
theorem witness_DirectoryGetListsEntriesInOrder :
    aged76.Ready ⟨kindDirectoryGet, 0, writeDirectoryGet 0 0⟩ 776 ∧
    aged76.Ready ⟨kindDirectoryGet, 0, writeDirectoryGet 4021 2⟩ 776 ∧ (4021 : Nat) ≤ 16383 ∧
    128 < ({ aged76 with directory := List.replicate 129 ⟨⟨1, 0⟩, 0⟩ } : State).directory.length := by
  refine ⟨ready_of ?_, ready_of ?_, ?_⟩ <;> decide +kernel

/-- A visit not yet due; profiles that are FREE, BOUND below the limit, BOUND one below it; the last profile. -/
theorem witness_SweepVisitAgesOneProfile :
    (let s : State := { aged76 with sweep := ⟨17, 0, true, 60, 7⟩ }
     s.resetHeld = false ∧ s.sweep.pointer = 17 ∧ s.sweep.visitReached = true ∧ (s.prof 17).state = .bound ∧
       (s.prof 17).holder = none ∧ (s.prof 17).age < 15 ∧ (s.prof 17).age + 1 = s.sweep.ageLimit) ∧
    (let s : State := { aged76 with sweep := ⟨17, 1, false, 60, 8⟩ }
     s.sweep.visitReached = false ∧ (s.prof 17).age + 1 ≠ s.sweep.ageLimit) ∧
    ({ aged76 with sweep := ⟨383, 0, true, 60, 7⟩ } : State).sweep.pointer = 383 ∧
    ¬((aged76.prof 383).state = .bound ∧ (aged76.prof 383).holder = none) := by decide +kernel

/-- CLASS with channels 5 and 6, the last index and the first beyond it; a PUT and a GET inside and at the end. -/
theorem witness_PointerRequestsBegin :
    (seek105.link.pointer = ⟨.profileCurrent, 0, 428⟩ ∧ (255 : Nat) < 256 ∧ (383 : Nat) < 65536 ∧ 1 ≤ coefs105.length ∧
      coefs105.length ≤ 255 ∧ (writeTablePut coefs105).length ≤ 1494 ∧
      TableId.items .profileCurrent ≤
        ({ seek105 with link := { seek105.link with pointer := ⟨.profileCurrent, 0, 9216⟩ } } : State).link.pointer.index) ∧
    (∀ i ∈ coefs105, i.Fits ∧ i.OfTable .profileCurrent) ∧
    seek105.Ready ⟨kindTableSeek, 0, writeTableSeek .classes 6 5⟩ 6 ∧
    seek105.Ready ⟨kindTableSeek, 0, writeTableSeek .classes 5 6⟩ 6 ∧
    seek105.Ready ⟨kindTableSeek, 0, writeTableSeek .profileMeta 255 383⟩ 6 ∧
    seek105.Ready ⟨kindTablePut, 0, writeTablePut coefs105⟩ 11 ∧ seek105.Ready ⟨kindTableGet, 0, writeTableGet 1⟩ 843 ∧
    seek105.Ready ⟨kindTableGet, 0, writeTableGet 64⟩ 843 := by
  refine ⟨by decide +kernel, fun i h => ?_, ?_⟩
  · rw [List.eq_of_mem_replicate h]
    exact ⟨trivial, .inl rfl⟩
  · and_intros <;> exact ready_of (by decide +kernel)

/-- A class item for an OFF and for a RUNNING channel, with more items behind it, at the last class and before it; too
little room for the response. -/
theorem witness_ClassItemsAreStoredClamped :
    (let s := putting (stateOf .off) ⟨.classes, (5 : Fin 6).val, (5 : Fin 6).val⟩ (.classEntry class28)
     s.resetHeld = false ∧ s.link.pointer = ⟨.classes, (5 : Fin 6).val, (5 : Fin 6).val⟩ ∧
       s.link.transfer = some (.put 9 (.classEntry class28 :: []) 0 false) ∧ 11 ≤ s.output.room ∧
       (s.chan 5).state = .off) ∧
    (∀ x ∈ [ChannelState.ready, .running, .stopping], ((stateOf x).chan 5).state = x) ∧
    [PutItem.classEntry class28] ≠ [] ∧ (4 : Fin 6).val < 5 ∧ (queueWithRoom 10).room < 11 := by
  rw [queueWithRoom_room 10 (by decide)]
  decide +kernel

/-- The state with a PUT of several items under way at a pointer. -/
def puttingAll (s : State) (a : AccessPointer) (items : List PutItem) : State :=
  { s with link := { s.link with pointer := a, transfer := some (.put 9 items 0 false) } }

/-- A pattern in use by a RUNNING channel, and one that is not, shorter than a class's Lp; a tap of each vector, inside its
table and at its end, with an item behind it; metadata at and beyond its limits; one byte less than the response needs. -/
theorem witness_PatternAndProfileItemsAreStored :
    (∃ taken : State → Bool → State, ∀ (w : State) (c : Bool), taken w c = if c then w else w) ∧
    (let s := putting (state33 0 0) ⟨.preambles, 0, (3 : Fin 8).val⟩ (.pattern (List.replicate 8 1))
     s.resetHeld = false ∧ s.link.transfer = some (.put 9 [.pattern (List.replicate 8 1)] 0 false) ∧ 11 ≤ s.output.room ∧
       s.link.pointer.table = .preambles ∧ (s.chan 1).state = .running ∧ (s.chan 1).classes[(0 : Fin 6)].valid = true ∧
       (s.chan 1).classes[(0 : Fin 6)].preamble = 3) ∧
    (let s := puttingAll after28 ⟨.preambles, 0, (2 : Fin 8).val⟩ [.pattern (List.replicate 8 1), .pattern []]
     s.link.transfer = some (.put 9 (.pattern (List.replicate 8 1) :: [.pattern []]) 0 false) ∧
       s.link.pointer.index + 1 < s.link.pointer.table.items ∧
       (∀ ch c : Fin 6, ((s.chan ch).state = .running ∨ (s.chan ch).state = .stopping) →
         (s.chan ch).classes[c].valid = true → (s.chan ch).classes[c].preamble ≠ 2) ∧
       (s.chan 3).classes[(0 : Fin 6)].preamble = 2 ∧ 8 < (s.chan 3).classes[(0 : Fin 6)].lp) ∧
    (let s := puttingAll held76 ⟨.profilePrevious, 0, (17 : Fin 384).val * 24 + (23 : Fin 24).val⟩
       [.coefficient ⟨5, 9⟩, .coefficient ⟨6, 9⟩]
     s.link.pointer.table = .profilePrevious ∧ s.link.pointer.index = (17 : Fin 384).val * 24 + (23 : Fin 24).val ∧
       s.link.pointer.index + 1 < s.link.pointer.table.items ∧ s.resetHeld = false) ∧
    (let s := puttingAll held76 ⟨.profileCurrent, 0, (383 : Fin 384).val * 24 + (23 : Fin 24).val⟩
       [.coefficient ⟨5, 9⟩, .coefficient ⟨6, 9⟩]
     s.link.pointer.index + 1 = s.link.pointer.table.items ∧ 11 ≤ s.output.room) ∧
    (let s := putting held76 ⟨.profileMeta, 0, (383 : Fin 384).val⟩ (.profileFields (-128) 7 0)
     s.link.pointer.table = .profileMeta ∧ s.link.pointer.index = (383 : Fin 384).val ∧ 11 ≤ s.output.room) ∧
    (queueWithRoom 10).room < 11 := by
  rw [queueWithRoom_room 10 (by decide)]
  exact ⟨⟨_, fun _ _ => rfl⟩, by decide +kernel⟩

/-- The state with a GET under way. -/
def getting (s : State) (a : AccessPointer) (left moved : Nat) (got : List Byte) : State :=
  { s with link := { s.link with pointer := a, transfer := some (.get 9 a left moved got) } }

/-- The 64th item of the META table, one item of each other table, an absent previous vector, the room that the response
needs and one byte less. -/
theorem witness_GetItemsReadTheEntry :
    (let s := getting held76 ⟨.profileMeta, 0, (17 : Fin 384).val⟩ 1 63 (List.replicate 819 0)
     s.resetHeld = false ∧ s.link.pointer = ⟨.profileMeta, 0, (17 : Fin 384).val⟩ ∧
       s.link.transfer = some (.get 9 ⟨.profileMeta, 0, 17⟩ 1 63 (List.replicate 819 0)) ∧
       11 + (List.replicate 819 (0 : Byte)).length + (s.prof 17).metaBytes.length ≤ s.output.room ∧
       s.link.pointer.index < s.link.pointer.table.items) ∧
    (let s := getting held76 ⟨.classes, (5 : Fin 6).val, (5 : Fin 6).val⟩ 2 0 []
     s.link.pointer.channel < 6 ∧ s.link.pointer.index + 1 = s.link.pointer.table.items) ∧
    (getting held76 ⟨.profilePrevious, 0, (0 : Fin 384).val * 24 + (0 : Fin 24).val⟩ 2 0 []).link.pointer.index + 1 ≠
      TableId.items .profilePrevious ∧
    (held76.prof 0).previous = none ∧ (queueWithRoom 23).room < 11 + 0 + (held76.prof 17).metaBytes.length := by
  rw [queueWithRoom_room 23 (by decide)]
  decide +kernel

/-- Lane 8 claims the profile that lane 7 holds. -/
def claimed412 (queue : List QueuedGrant) : State :=
  { (state412 queue).setLane 8 { Lane.idle with
      state := .armed, channel := 5, grant := grantB, cls := class412, role := .claim 40 } with
    profiles := (synced 0).profiles.set 40
      { Profile.free with state := .bound, key := some ⟨905, 5⟩, offset := 3, holder := some 7, claim := some 8 } }

theorem profileInRange_of {p : Profile} {n : Nat}
    (h : (-127 ≤ p.offset ∧ p.offset ≤ 127) ∧ (-6 ≤ p.bias ∧ p.bias ≤ 6) ∧ (1 ≤ p.revertLimit ∧ p.revertLimit ≤ 7) ∧
      p.failCount < p.revertLimit ∧ (p.state = .bound → p.age < n) ∧ (p.state = .stale → p.age = n)) : p.InRange n :=
  let ⟨offset, bias, revertLimit, failCount, bound, stale⟩ := h
  { offset, bias, revertLimit, failCount, bound, stale }

theorem claimed412_prof (p : Fin 384) :
    (claimed412 [grantB]).prof p =
      if p = 40 then { Profile.free with state := .bound, key := some ⟨905, 5⟩, offset := 3, holder := some 7
                                         claim := some 8 }
      else Profile.free := by
  unfold State.prof
  simp [claimed412, synced, State.reset, Vector.getElem_set, Fin.ext_iff, eq_comm]

theorem claimed412_inRange (p : Fin 384) : ((claimed412 [grantB]).prof p).InRange (claimed412 [grantB]).sweep.ageLimit := by
  apply profileInRange_of
  rw [claimed412_prof]
  split <;> decide +kernel

theorem claimed412_role (l : Fin 12) :
    ((claimed412 [grantB]).lane l).role = if l = 7 then .holder 40 else if l = 8 then .claim 40 else .none := by
  revert l
  decide +kernel

/-- A lane that holds the one bound profile, and one that claims it. -/
theorem claimed412_legal : (claimed412 [grantB]).StationsLegal where
  settings := by constructor <;> decide +kernel
  profiles := claimed412_inRange
  ordered := by decide +kernel
  size := by decide +kernel
  named := by decide +kernel
  entered := fun p k h => by
    rw [claimed412_prof] at h
    split at h
    · rename_i e; subst e; cases h; decide +kernel
    · cases h
  keyed := fun p => by rw [claimed412_prof]; split <;> simp [Profile.free]
  holder := fun l p => by
    rw [claimed412_prof, claimed412_role]
    by_cases hl : l = 7 <;> by_cases hk : l = 8 <;> by_cases hp : p = 40 <;> simp_all [Profile.free, eq_comm]
  claim := fun l p => by
    rw [claimed412_prof, claimed412_role]
    by_cases hl : l = 7 <;> by_cases hk : l = 8 <;> by_cases hp : p = 40 <;> simp_all [Profile.free, eq_comm]
  behind := fun p => by rw [claimed412_prof]; split <;> simp [Profile.free]
  awaited := fun p h hh _ => by
    rw [claimed412_prof] at hh
    split at hh
    · cases hh; decide +kernel
    · cases hh
  armed := fun l p => by revert l; decide +kernel +revert
  free := fun p => by rw [claimed412_prof]; split <;> simp [Profile.free]
  retiring := fun p => by rw [claimed412_prof]; split <;> simp [Profile.free]
  idle := by decide +kernel

/-- The TRACKING lane of the channel with a linked head and a claimant, a lane in ARMED, one in CLOSING, and lanes that do
not serve the channel. -/
theorem witness_InputLockLossAbortsReception :
    (claimed412 [grantB]).StationsLegal ∧
    (let s := claimed412 [grantB]
     s.resetHeld = false ∧ s.serves 7 5 = true ∧ (s.lane 7).state = .tracking ∧ s.serves 0 5 = false ∧
       s.headFollows 7 = true ∧ (s.lane 8).state = .armed ∧ s.serves 8 5 = true ∧ (s.lane 7).role = .holder 40 ∧
       (s.prof 40).claim = some 8 ∧ (s.prof 40).state ≠ .retiring) ∧
    (∀ l, (state412 []).headFollows l = true → ((state412 []).lane l).channel = 5 →
      ((state412 []).lane l).state = .armed) ∧ (closed412.lane 7).state = .closing :=
  ⟨claimed412_legal, by decide +kernel⟩

/-- The head of section 5.6 once it is due. -/
def head56 : QueuedGrant := { grant56 with armReached := true }

/-- The three outcomes, MISSED at the window-open tick itself; a CHAIN grant with its successor behind it. -/
theorem witness_ArmingWithoutALaneYieldsItsRecord :
    (let s := due56.setChan 0 { due56.chan 0 with lock := .lost }
     s.resetHeld = false ∧ s.queue 0 = head56 :: [] ∧ s.linked 0 head56 = false ∧ head56.armReached = true ∧
       (∀ h ∈ ([] : List QueuedGrant).head?, h.armReached = false) ∧ (s.chan 0).lock = .lost) ∧
    (let s := atTick due56 639996
     (s.chan 0).lock = .locked ∧ s.queue 0 = head56 :: [] ∧ s.linked 0 head56 = false ∧
       s.reached (windowOpenTick (s.chan 0) head56 (s.expectedOffset 0 head56.grant)
         (s.chan 0).classes[head56.grant.cls].w) = true) ∧
    (let s : State := { due56 with lanes := Vector.replicate 12 { Lane.idle with state := .armed, channel := 3 } }
     (s.chan 0).lock = .locked ∧ (∀ l, (s.lane l).state ≠ .free) ∧ s.linked 0 head56 = false ∧
       s.reached (windowOpenTick (s.chan 0) head56 (s.expectedOffset 0 head56.grant)
         (s.chan 0).classes[head56.grant.cls].w) = false) ∧
    (let s := atTick (state412 [grantA, grantB]) 3199744
     grantA.grant.chain = true ∧ s.queue 5 = { grantA with armReached := true } :: [grantB] ∧
       ∀ h ∈ [grantB].head?, h.armReached = false) := by decide +kernel

/-- Lane 0 free; and lane 3 the lowest free one. -/
theorem witness_ArmingTakesTheLowestFreeLane :
    (let s := due56
     s.resetHeld = false ∧ s.queue 0 = head56 :: [] ∧ s.linked 0 head56 = false ∧ head56.armReached = true ∧
       (s.chan 0).lock = .locked ∧
       s.reached (640000 + BitVec.ofInt 32 ((0 - 2) * (tps (s.chan 0).rate / 4 : Nat))) = false ∧
       (s.lane 0).state = .free ∧ (∀ k, k < (0 : Fin 12) → (s.lane k).state ≠ .free)) ∧
    (let s : State := { due56 with lanes := (Vector.replicate 12 { Lane.idle with state := .armed }).set 3 Lane.idle }
     (s.lane 3).state = .free ∧ ∀ k, k < (3 : Fin 12) → (s.lane k).state ≠ .free) := by decide +kernel

/-- A lane about to check out a grant of station 2,210 on channel 0. -/
def checking (g : Grant) (p : Profile) : State :=
  { (state56 0).setLane 3 { Lane.idle with state := .armed, grant := { grant56 with grant := g } } with
    profiles := (state56 0).profiles.set 96 p }

/-- Open, unbound, NO_WRITEBACK cold and warm, a free holder, a holder that receives with and without a claim, a holder in
CLOSING without one. -/
theorem witness_CheckoutFixesTheRole :
    (let s := checking { grant56.grant with station := 16383 } Profile.free
     (s.lane 3).grant.grant.station = 16383) ∧
    (let s := checking { grant56.grant with station := 2211 } Profile.free
     s.lookup ⟨2211, 0⟩ = none ∧ (s.lane 3).channel = 0) ∧
    (let s := checking { grant56.grant with noWriteback := true } { Profile.free with state := .stale }
     s.lookup ⟨2210, 0⟩ = some 96 ∧ (s.prof 96).state = .stale ∧ (s.lane 3).grant.grant.noWriteback = true) ∧
    (let s := checking { grant56.grant with noWriteback := true } { Profile.free with state := .bound }
     (s.prof 96).state = .bound ∧ (s.lane 3).grant.grant.ranging = false) ∧
    (let s := checking grant56.grant { Profile.free with state := .bound, holder := some 5 }
     (s.prof 96).holder = some 5 ∧ (s.lane 5).state ≠ .closing ∧ (s.prof 96).claim = none ∧
       (s.lane 3).grant.grant.noWriteback = false) ∧
    (checking grant56.grant { Profile.free with state := .bound, holder := some 5, claim := some 6 }).prof 96 ≠
      Profile.free ∧
    ((checking grant56.grant { Profile.free with state := .bound }).prof 96).holder = none ∧
    (let s := (checking grant56.grant { Profile.free with state := .bound, holder := some 5 }).setLane 5
       { closed412.lane 7 with role := .holder 96 }
     (s.prof 96).holder = some 5 ∧ (s.lane 5).state = .closing ∧ (5 : Fin 12) ≠ 3 ∧ (s.prof 96).claim = none) := by
  decide +kernel

/-- An ARMED lane at its window-open tick, its channel LOCKED or LOST, with each role the statement tells apart. -/
def windowed (lock : InputLock) (r : Role) (p : Profile) : State :=
  let s := atTick armed56 639996
  { s.setLane 0 { s.lane 0 with role := r } with
    channels := s.channels.set 0 { s.chan 0 with lock := lock }
    profiles := s.profiles.set 96 p }

/-- Claims on a BOUND, a STALE and a RETIRING profile; the lock LOST, without and with a linked head; a window whose tick
is not noted. -/
theorem witness_WindowOpeningStartsTheSearch :
    (let s := windowed .locked (.holder 96) { Profile.free with state := .bound, holder := some 0 }
     s.resetHeld = false ∧ (s.lane 0).state = .armed ∧ (s.lane 0).windowReached = true ∧
       (s.chan (s.lane 0).channel).lock = .locked ∧ (s.lane 0).role = .holder 96) ∧
    ((atTick armed56 639995).lane 0).windowReached = false ∧
    (∀ x : ProfileState, x = .bound ∨ x = .stale ∨ x = .retiring →
      (let s := windowed .locked (.claim 96) { Profile.free with state := x, holder := some 3, claim := some 0 }
       (s.lane 0).role = .claim 96 ∧ (s.prof 96).state = x ∧ (s.prof 96).holder ≠ none ∧
         (s.lane 0).windowReached = true)) ∧
    (let s := windowed .lost (.holder 96) { Profile.free with state := .bound, holder := some 0 }
     (s.chan (s.lane 0).channel).lock = .lost ∧ s.headFollows 0 = false) ∧
    (let s := windowed .lost (.holder 96) { Profile.free with state := .bound, holder := some 0 }
     let g : QueuedGrant := { grant56 with startTick := 640512, link := true }
     let t := (s.setLane 0 { s.lane 0 with
       grant := { grant56 with grant := { grant56.grant with chain := true } } }).setQueue 0 [g]
     t.headFollows 0 = true ∧ t.queue 0 = g :: [] ∧ (t.chan (t.lane 0).channel).lock = .lost) := by
  refine ⟨?_, ?_, ?_, ?_⟩
  case refine_3 => rintro x (rfl | rfl | rfl) <;> decide +kernel
  all_goals decide +kernel

/-- A silent lane: every correlation is (0, 0). A lane that has heard a burst, its points and its samples. -/
theorem witness_SearchTakesTheLargestCorrelation :
    (∀ o ∈ (opened56.lane 0).candidates, (opened56.lane 0).correlation o = ⟨0, 0⟩) ∧
    (∃ p : Nat → Cx, ∀ i, p i = match ((heard56.lane 0).preamble.getD i 0).toNat with
      | 0 => ⟨1024, 1024⟩ | 1 => ⟨-1024, 1024⟩ | 2 => ⟨-1024, -1024⟩ | _ => ⟨1024, -1024⟩) ∧
    (∃ v : Int → Nat → Cx, ∀ o i, v o i = if o + 4 * (i : Int) < (heard56.lane 0).firstPos then ⟨0, 0⟩
      else match (heard56.lane 0).buffer[(o + 4 * (i : Int) - (heard56.lane 0).firstPos).toNat]? with
        | some z => ⟨z.re.toInt, z.im.toInt⟩
        | none => ⟨0, 0⟩) ∧
    0 < ((heard56.lane 0).correlation (heard56.lane 0).peak).sq :=
  ⟨by decide +kernel, ⟨_, fun _ => rfl⟩, ⟨_, fun _ _ => rfl⟩, by decide +kernel⟩

/-- The search of section 5.6 at its end, nothing heard, its grant with CHAIN and `linked56` behind it. -/
def linked56 : QueuedGrant :=
  { grant56 with startTick := 640512, armTick := 640000, endTick := 641024, link := true, armReached := true }

def chained56 : State :=
  let s := atTick opened56 640068
  (s.setLane 0 { s.lane 0 with grant := { grant56 with grant := { grant56.grant with chain := true } } }).setQueue 0
    [linked56]

/-- R51: NO_PREAMBLE arms the linked head at the same event, in the lowest FREE lane. -/
theorem test_searchEnd_falls_back :
    (let s := after (.searchEnd 0) chained56
     ((s.lane 0).state, (s.lane 1).state, (s.lane 1).grant, s.queue 0)) = (.closing, .armed, linked56, []) := by
  decide +kernel

/-- A burst detected; none detected, without a claim, with one, and with a linked head; a lane alone in TRAINING. -/
theorem witness_SearchEndDecidesDetection :
    (heard56.resetHeld = false ∧ (heard56.lane 0).state = .searching ∧ (heard56.lane 0).searchReached = true ∧
      (heard56.lane 0).detects = true) ∧
    (let s := atTick opened56 640068
     (s.lane 0).state = .searching ∧ (s.lane 0).searchReached = true ∧ (s.lane 0).detects = false ∧
       s.headFollows 0 = false ∧ (s.lane 0).role = .holder 96 ∧ (s.prof 96).claim = none ∧
       ((s.setProf 96 { s.prof 96 with claim := some 4 }).prof 96).claim ≠ none) ∧
    ((chained56.lane 0).detects = false ∧ (chained56.lane 0).state = .searching ∧ (chained56.lane 0).searchReached = true ∧
      chained56.headFollows 0 = true ∧ chained56.queue 0 = linked56 :: [] ∧ chained56.resetHeld = false) ∧
    (let s := state610.setLane 0 { lane610 with state := .training }
     s.resetHeld = false ∧ (∀ k, s.serves k 0 = decide (k = 0)) ∧ (s.lane 0).state = .training) := by
  and_intros <;> decide +kernel

/-- The lane of section 6.10 with its floor set, the samples of positions 28 to 27 + `n` buffered. -/
def watched610 (floor lows n : Nat) : Lane :=
  { lane610 with cls := { class56 with muTrack := 16, floor := floor }, lowCount := lows, lowStart := 8
                 nextPos := 16, symbols := [⟨7, 0, 0, 3, 524288⟩, ⟨8, 1, 1, 5, 524288⟩], buffer := List.replicate n ⟨100, 0⟩ }

/-- Lanes of channel 0 in SEARCHING, in TRAINING and TRACKING with nothing to complete, in CLOSING with 127 and 128 samples
counted. Blocks not low, low for the first time, and low again, on the data range that begins at position 8, where o* is 0:
the block of positions 8 to 15 ends with the sample of position 60; at the last, a head linked to the lane's grant. -/
theorem witness_SamplesAreBufferedAndCounted :
    (let s := (((opened56.setLane 1 { Lane.idle with state := .closing, closeCount := 127 }).setLane 2
       { Lane.idle with state := .closing, closeCount := 128 }).setLane 3 { lane610 with state := .training }).setLane 4
       { lane610 with nextPos := 9 }
     s.resetHeld = false ∧ (∀ l, s.serves l 0 = decide (l ≤ 4)) ∧ (s.lane 0).state = .searching ∧
       (s.lane 3).state = .training ∧ (s.lane 4).state = .tracking ∧ (s.lane 4).cls.floor = 0 ∧
       (s.lane 4).firstPos + ((s.lane 4).buffer.length : Int) = 56 ∧ (s.lane 4).offsetFound = 0 ∧ (s.lane 4).bias = 0 ∧
       (56 : Int) < 0 + 4 * ((9 : Int) + 6 + 0)) ∧
    (let s (floor lows : Nat) := state610.setLane 0 (watched610 floor lows 33)
     let x := (s 5 0).lane 0
     (x.state = .tracking ∧ x.continued = false ∧ x.base + x.cls.lp = 8 ∧ x.offsetFound + 4 * ((15 : Int) + x.bias) = 60 ∧
       (8 - 8) % 8 = 0 ∧ 8 + 7 + x.cls.guardLen < x.base + x.grant.grant.length * ((s 5 0).chan x.channel).spm.spm) ∧
     ((List.range 8).map fun i => (x.sampleAt (x.offsetFound + 4 * (((8 + i : Nat) : Int) + x.bias))).sq).sum = 80000 ∧
     ((s 80001 1).lane 0).lowCount = 1 ∧ ((s 80001 0).lane 0).lowCount = 0 ∧ (s 80001 1).headFollows 0 = false ∧
     (((s 80001 1).setLane 0 { watched610 80001 1 33 with grant := (chained56.lane 0).grant }).setQueue 0
       [linked56]).headFollows 0 = true ∧
     (∀ p, ((s 80001 1).lane 0).role ≠ .holder p)) := by
  refine ⟨by decide +kernel, ?_⟩
  and_intros <;> decide +kernel

/-- The lane of section 6.10, its class's floor 0, at the sample that completes symbol 8; in TRAINING at its last preamble
symbol, its end tick noted and not; at a position behind the data range; with the inputs still to come. -/
theorem witness_ACompletedSymbolIsDecided :
    (let x : Lane := { state610.lane 0 with buffer := (state610.lane 0).buffer ++ [⟨0, 0⟩] }
     let pos := x.firstPos + ((state610.lane 0).buffer.length : Int)
     state610.resetHeld = false ∧ (∀ k, state610.serves k 0 = decide (k = 0)) ∧ x.state = .tracking ∧ x.nextPos = 8 ∧
       x.offsetFound + 4 * ((8 : Int) + 6 + x.bias) ≤ pos ∧ pos < x.offsetFound + 4 * ((9 : Int) + 6 + x.bias) ∧
       x.continued = false ∧ x.base + x.cls.lp ≤ 8 ∧ 7 < x.base + x.cls.lp ∧
       8 + x.cls.guardLen < x.base + x.grant.grant.length * (state610.chan 0).spm.spm) ∧
    (let x : Lane := { lane610 with state := .training, nextPos := 7, preamble := [0, 1, 3, 2, 1, 0, 2, 3] }
     x.state = .training ∧ x.cls.muTrain ≠ 0 ∧ x.cls.lp ≤ 7 + 1 ∧ x.endReached = false ∧
       exec (.endEvent 0) (state610.setLane 0 { x with endReached := true, state := .tracking }) =
         .next (after (.endEvent 0) (state610.setLane 0 { x with endReached := true, state := .tracking }))) := by
  and_intros <;> first | decide +kernel | rfl

/-- No linked head: the queue empty, and a head that is due but not linked; no claim, and one. -/
theorem witness_EndEventClosesTheLane :
    (let s := state412 []
     s.resetHeld = false ∧ (s.lane 7).state = .tracking ∧ (s.lane 7).endReached = true ∧ s.headFollows 7 = false ∧
       (s.lane 7).role = .holder 40 ∧ (s.prof 40).claim = none ∧ s.queue (s.lane 7).channel = []) ∧
    (state412 [alone412]).headFollows 7 = false ∧
    ((claimed412 []).headFollows 7 = false ∧ ((claimed412 []).prof 40).claim ≠ none) := by decide +kernel

theorem witness_EndEventContinuesAChain :
    (let s := state412 [grantB]
     s.resetHeld = false ∧ (s.lane 7).state = .tracking ∧ (s.lane 7).endReached = true ∧
       s.queue (s.lane 7).channel = grantB :: [] ∧ grantB.link = true ∧ (s.lane 7).grant.grant.chain = true ∧
       (s.lane 7).grant.grant.station = grantB.grant.station ∧ (s.lane 7).grant.endTick = grantB.startTick ∧
       s.reached grantB.endTick = false ∧ (∀ h ∈ ([] : List QueuedGrant).head?, h.armReached = false)) := by
  decide +kernel

/-- A guest's lane whose close is complete, alone on a STOPPING channel. -/
theorem witness_CloseCompletionFreesTheLane :
    (let s := (closed412.setLane 7 { closed412.lane 7 with role := .guest 40 }).setChanState 5 .stopping
     s.resetHeld = false ∧ (s.lane 7).state = .closing ∧ (s.lane 7).closeCount = 128 ∧ (s.lane 7).role = .guest 40 ∧
       (s.lane 7).record.isSome = true ∧ (s.chan 5).state = .stopping ∧ s.queue 5 = [] ∧
       (∀ k, k ≠ (7 : Fin 12) → s.serves k 5 = false)) := by decide +kernel

/-- A state about to judge, with a profile and with sums over 15 or 16 symbols. -/
def judging (p : Profile) (n : Nat) : State :=
  { closed412.setLane 7 { closed412.lane 7 with chain := ⟨3500000, 251658240, n⟩ } with
    profiles := closed412.profiles.set 40 p }

/-- The profile of the judgement. -/
def profile412 : Profile := { Profile.free with state := .bound, key := some ⟨905, 5⟩, holder := some 7 }

/-- 16 symbols at the gate and below it, 15 symbols, a RETIRING and an overridden profile, a NO_PREAMBLE burst, which has no
measurements, a failure below the revert limit and at it; no claim, and one. -/
theorem witness_TheJudgementWritesTheProfileBack :
    (let s := judging profile412 16
     s.resetHeld = false ∧ (s.lane 7).state = .closing ∧ (s.lane 7).closeCount = 128 ∧ (s.lane 7).role = .holder 40 ∧
       (s.prof 40).holder = some 7 ∧ (s.prof 40).claim = none ∧ (s.lane 7).record.isSome = true ∧
       (s.lane 7).measurement = some ⟨4, 2000000⟩ ∧ (s.prof 40).state ≠ .retiring ∧ (s.prof 40).overridden = false ∧
       (s.lane 7).record.map (·.outcome) = some .complete ∧ 16 ≤ (s.lane 7).chain.n ∧
       (s.lane 7).cls.gate ≤ merIndex (s.lane 7).chain.err (s.lane 7).chain.ref) ∧
    merIndex 3500000 251658240 < 7 ∧ ((judging profile412 15).lane 7).chain.n < 16 ∧
    ((judging { profile412 with state := .retiring, key := none, claim := some 8 } 16).prof 40).state = .retiring ∧
    ((judging { profile412 with overridden := true } 16).prof 40).overridden = true ∧
    profile412.failCount + 1 < profile412.revertLimit ∧
    ¬ ({ profile412 with failCount := 2 } : Profile).failCount + 1 < profile412.revertLimit ∧
    ((judging { profile412 with claim := some 8 } 16).prof 40).claim = some 8 ∧ (8 : Fin 12) ≠ 7 ∧
    (let x := (after (.searchEnd 0) (atTick opened56 640068)).lane 0
     x.measurement = none ∧ x.record.map (·.outcome) = some .noPreamble ∧ x.role = .holder 96) := by decide +kernel

/-- Biases at their limits; a shift that the bias absorbs whole, and one that it does not; a tap with a source and one
without. -/
theorem witness_RecentringMovesTheDominantTap :
    (-6 : Int) ≤ -6 ∧ (6 : Int) ≤ 6 ∧ (-6 ≤ 0 + (recentreOf vector89 0).shift ∧ 0 + (recentreOf vector89 0).shift ≤ 6) ∧
    ¬ 5 + (recentreOf vector89 5).shift ≤ 6 ∧ ((23 : Fin 24).val : Int) = ((22 : Fin 24).val : Int) + 1 ∧
    24 ≤ ((23 : Fin 24).val : Int) + 1 ∧ ((0 : Fin 24).val : Int) + (-1) < 0 := by decide +kernel

/-- The limits of a component, and the boundary between two levels. -/
theorem witness_TheSlicerTakesTheNearestLevel :
    (-2048 : Int) ≤ -2048 ∧ (2047 : Int) ≤ 2047 ∧ sliceLevel .qam16 (-1) = -512 ∧ sliceLevel .qam16 0 = 512 := by
  decide +kernel

theorem witness_TheMerIndexIsTheLargestPower :
    (5000000 : Nat) ≠ 0 ∧ (4194304 : Nat) < 5000000 ∧ (4194304 : Nat) ≤ 4194304 := by decide

/-- A record of a lane, and the first and the last of its bytes as section 10.6 lays them out: two 16QAM symbols make one
byte of list. -/
theorem witness_RecordsAndNoticesGiveWayWhenFull :
    (let x : Lane := { lane412 with symbols := [⟨71, 1, 2, 10, 524288⟩, ⟨72, 3, 0, 10, 524288⟩] }
     let r := x.linkedRecord 7
     r.cause ≠ some .resetNode ∧
       (OutItem.record r).bytes.take 14 = [0x80, 0, 1, 23, 5, 2, 1, 1, 0x03, 0x89, 0, 0, 0, 1] ∧
       (OutItem.record r).bytes.getLast? = some 0x6C) ∧
    (∀ b : Bool, (if b then 1 else 0 : Nat) = if b then 1 else 0) := by decide +kernel

theorem witness_StepsKeepTheOutputWithinItsLimits :
    State.reset.output.Bounded ∧ step { State.reset with pending := [.tick] } = .next (after .tick State.reset) :=
  ⟨⟨by decide +kernel, by decide +kernel⟩, rfl⟩

/-- A reached state with a lane and a queue, and one in UNSYNCED. -/
theorem witness_StepsKeepUnsyncedChannelsQuiet :
    (state412 [grantB]).Quiet ∧ State.reset.Quiet ∧ State.reset.timebase.sync = .unsynced := by
  refine ⟨?_, ?_, rfl⟩ <;> constructor <;> decide +kernel

theorem classInRange_of {e : ClassEntry}
    (h : (8 ≤ e.lp ∧ e.lp ≤ 64) ∧ e.w ≤ 127 ∧ (1 ≤ e.rho ∧ e.rho ≤ 16) ∧
      (e.muTrain = 0 ∨ (8 ≤ e.muTrain ∧ e.muTrain ≤ 24)) ∧ (e.muTrack = 0 ∨ (8 ≤ e.muTrack ∧ e.muTrack ≤ 24)) ∧
      e.guardLen ≤ 15 ∧ e.gate ≤ 31 ∧ e.floor < 2 ^ 24) : e.InRange :=
  let ⟨lp, w, rho, muTrain, muTrack, guardLen, gate, floor⟩ := h
  { lp, w, rho, muTrain, muTrack, guardLen, gate, floor }

/-- The state after steps 1 and 2 of section 2.8. -/
def tables28 : State := after .putItem (putting after28 ⟨.preambles, 0, 2⟩ (.pattern (List.replicate 32 1)))

theorem tables28_inRange (ch i : Fin 6) : ((tables28.chan ch).classes[i]).InRange := by
  apply classInRange_of
  revert ch i
  decide +kernel

theorem witness_StepsKeepTheTablesLegal : tables28.TablesLegal :=
  ⟨tables28_inRange, by decide +kernel, by decide +kernel, fun t h => by
    have hn : tables28.link.transfer = none := by decide +kernel
    rw [hn] at h
    cases h⟩

/-- A lane that holds the one bound profile, and one that claims it. -/
theorem witness_StepsKeepTheStationsConsistent : (claimed412 [grantB]).StationsLegal := claimed412_legal

end Sys2Proof.Tests
end

section
/-! The timebase: what a request's taking keeps, what the aborts of a halt do to the lanes, and the law that channels
neither RUNNING nor STOPPING are quiet. -/

namespace Sys2Proof.Machine

/-! ### Reset and the timebase (R15) -/

/-- Settles O4: the reset state, the commands ignored while RESET_N is low, and the first tick after its release are each
read off the meanings. -/
theorem resetHoldsTheTimebaseDefaults : Obligations.ResetHoldsTheTimebaseDefaults := by
  unfold Obligations.ResetHoldsTheTimebaseDefaults
  refine ⟨rfl, fun s => ⟨_, rfl, rfl, rfl, fun u hu => ?_, _, rfl, rfl, _, rfl, rfl⟩⟩
  exact congrArg Host.Outcome.next (State.unlessReset_held u _ hu)

/-! ### What the taking of a message keeps -/

/-- A property that neither the link's own bookkeeping nor a response touches: the buffer, the hold mark, the addresses
and the access pointer may change, a PUT or GET under way may not. -/
structure LinkBlind (P : State → Prop) : Prop where
  setLink : ∀ (s : State) (n : NodeLink), n.transfer = s.link.transfer → P s → P (s.setLink n)
  respond : ∀ (s : State) (m : Message) (st : Status) (fs : List Byte), P s → P (s.respond m st fs)

section LinkBlind

variable {P : State → Prop} {s t : State} {m : Message}

theorem State.unlessReset_keeps {f : State → State} (hf : P s → P (f s)) (hs : P s) : P (s.unlessReset f) := by
  unfold State.unlessReset
  split
  · exact hs
  · exact hf hs

/-- A message that is passed on, answered for its form, held or left waiting keeps what its owner keeps. -/
theorem LinkBlind.passOn (hP : LinkBlind P) {α : Type} {form : Option α} {bad : Status} {room : Nat}
    {act : State → α → State} (hact : ∀ x, form = some x → P s.taken → P (act s.taken x)) (hs : P s) :
    P (s.passOn m form bad room act) := by
  have taken : P s.taken := hP.setLink s s.link.dropHead rfl hs
  have held : P s.hold := hP.setLink s _ rfl hs
  unfold State.passOn
  split
  · exact hs
  · split
    · split
      · exact hP.respond _ _ _ _ taken
      · exact held
    · split
      · exact hact _ rfl taken
      · exact held

theorem LinkBlind.onChannel (hP : LinkBlind P) {n : Nat} {fs : List Byte} {act : State → Fin 6 → State}
    (hact : ∀ ch, P (act s ch)) (hs : P s) : P (s.onChannel m n fs act) := by
  unfold State.onChannel
  split
  · exact hact _
  · exact hP.respond _ _ _ _ hs

/-- A commanded message keeps what its taking keeps. -/
theorem LinkBlind.takeRequest (hP : LinkBlind P) {take : State → Message → State} (htake : ∀ u, P u → P (take u m))
    (hs : P s) (h : takeRequest m take s = .next t) : P t := by
  unfold Machine.takeRequest at h
  split at h
  · rw [← Host.Outcome.next.inj h]
    exact State.unlessReset_keeps (fun hs => htake _ (hP.setLink s _ (s.link.offer_transfer m) hs)) hs
  · cases h

end LinkBlind

/-! ### Aborts without a fallback (R10, R23, R74, R76, R77) -/

@[simp] theorem State.settle_lane (s : State) (ch : Fin 6) (l : Fin 12) : (s.settle ch).lane l = s.lane l := by
  unfold State.settle; split <;> rfl

/-- An abort for a cause after which no head falls back: a FREE lane is left, any other hands over at most one record,
becomes FREE and releases its role. -/
theorem State.abortLane_cases {c : AbortCause} (hstep : c ≠ .timebaseStep) (hinput : c ≠ .inputLost) (b : Bool) (s : State)
    (l : Fin 12) :
    ((s.lane l).state = .free ∧ State.abortLane c b s l = s) ∨
    ∃ u, (u = s ∨ ∃ r, u = s.emitLane l r) ∧
      State.abortLane c b s l = ((u.setLane l Lane.idle).releaseRole (s.lane l).role).settle (s.lane l).channel := by
  have receiving : ∃ u, (u = s ∨ ∃ r, u = s.emitLane l r) ∧
      s.abortReceiving l c b = ((u.setLane l Lane.idle).releaseRole (s.lane l).role).settle (s.lane l).channel := by
    simp only [State.abortReceiving, beq_eq_false_iff_ne.2 hstep, beq_eq_false_iff_ne.2 hinput, Bool.or_self,
      Bool.and_false, Bool.false_eq_true, if_false]
    split
    · exact ⟨s, .inl rfl, rfl⟩
    · exact ⟨_, .inr ⟨_, rfl⟩, rfl⟩
  have closing : ∃ u, (u = s ∨ ∃ r, u = s.emitLane l r) ∧
      s.abortClosing l = ((u.setLane l Lane.idle).releaseRole (s.lane l).role).settle (s.lane l).channel := by
    unfold State.abortClosing
    dsimp only
    split
    · exact ⟨s, .inl rfl, rfl⟩
    · exact ⟨_, .inr ⟨_, rfl⟩, rfl⟩
  unfold State.abortLane
  split
  · rename_i h; exact .inl ⟨h, rfl⟩
  · exact .inr closing
  all_goals exact .inr receiving

/-- The release of its role leaves a lane FREE that an abort has freed. -/
theorem State.releaseRole_idle_state (s : State) (l : Fin 12) (r : Role) :
    (((s.setLane l Lane.idle).releaseRole r).lane l).state = .free := by
  rw [((s.setLane l Lane.idle).releaseRole_work r).judging.service l |>.1, State.setLane_lane, if_pos rfl]
  rfl

section Aborting

variable {c : AbortCause} {ls : List (Fin 12)} {s t : State}

/-- An abort without a fallback frees its lane and settles its channel, no more. -/
theorem State.abortLane_aborting (hstep : c ≠ .timebaseStep) (hinput : c ≠ .inputLost) (b : Bool) (s : State) {l : Fin 12}
    (hl : l ∈ ls) : Work (Aborting ls) s (State.abortLane c b s l) := by
  rcases State.abortLane_cases hstep hinput b s l with ⟨-, e⟩ | ⟨u, hu, e⟩
  · rw [e]; exact .refl s
  · have handed : Work (Aborting ls) s u := by
      rcases hu with rfl | ⟨r, rfl⟩
      · exact .refl _
      · exact (Work.refl s).emitRecord trivial
    have freed : Work (Aborting ls) s ((u.setLane l Lane.idle).releaseRole (s.lane l).role) :=
      (handed.setLane (.inr ⟨hl, rfl⟩)).trans
        ((State.releaseRole_work _ _).mono fun _ _ => Act.Releases.aborts)
    have free := u.releaseRole_idle_state l (s.lane l).role
    rw [e]
    unfold State.settle
    split
    · rename_i h
      obtain ⟨stopping, empty, noLane⟩ := h
      exact freed.setReady ⟨stopping, empty, noLane, l, hl, free⟩
    · exact freed

theorem State.abortLane_frees (hstep : c ≠ .timebaseStep) (hinput : c ≠ .inputLost) (b : Bool) (s : State) (l : Fin 12) :
    ((State.abortLane c b s l).lane l).state = .free := by
  rcases State.abortLane_cases hstep hinput b s l with ⟨h, e⟩ | ⟨u, -, e⟩
  · rw [e]; exact h
  · rw [e, State.settle_lane]; exact u.releaseRole_idle_state _ _

/-- The aborts of one event without a fallback (R77). -/
theorem State.abortLanes_aborting (hstep : c ≠ .timebaseStep) (hinput : c ≠ .inputLost) (b : Bool) :
    ∀ (ks : List (Fin 12)) (s : State), (∀ k ∈ ks, k ∈ ls) → Work (Aborting ls) s (s.abortLanes c b ks)
  | [], s, _ => .refl s
  | k :: ks, s, h =>
    (State.abortLane_aborting hstep hinput b s (h k List.mem_cons_self)).trans
      (State.abortLanes_aborting hstep hinput b ks _ fun j hj => h j (List.mem_cons_of_mem _ hj))

/-- After such aborts a lane serves as before, or is one of the aborted lanes and FREE. -/
theorem Work.aborting_lane (h : Work (Aborting ls) s t) (k : Fin 12) :
    (t.lane k).SameService (s.lane k) ∨ (k ∈ ls ∧ (t.lane k).state = .free) := by
  induction h with
  | refl => exact .inl (Lane.SameService.rfl _)
  | step a _ ha ih =>
    cases a with
    | lane l x =>
      simp only [Act.apply, State.setLane_lane]
      split
      · rename_i e
        subst e
        rcases ha with same | ⟨hl, rfl⟩
        · rcases ih with ih | ⟨hl, free⟩
          · exact .inl (same.trans ih)
          · exact .inr ⟨hl, same.1.trans free⟩
        · exact .inr ⟨hl, rfl⟩
      · exact ih
    | prof p x => exact ih
    | record r => simpa [Act.apply] using ih
    | ready ch => exact ih
    | notice e => exact ha.elim
    | queue ch q => exact ha.elim

/-- A lane that is FREE stays FREE through such aborts. -/
theorem Work.aborting_free (h : Work (Aborting ls) s t) {k : Fin 12} (hk : (s.lane k).state = .free) :
    (t.lane k).state = .free := by
  rcases h.aborting_lane k with same | ⟨-, free⟩
  · exact same.1.trans hk
  · exact free

theorem Work.aborting_queue (h : Work (Aborting ls) s t) (ch : Fin 6) : t.queue ch = s.queue ch := by
  induction h with
  | refl => rfl
  | step a _ ha ih =>
    rw [← ih]
    cases a with
    | lane l x => rfl
    | prof p x => rfl
    | record r => simp [Act.apply]
    | ready c => simp [Act.apply]
    | notice e => exact ha.elim
    | queue c q => exact ha.elim

theorem State.abortLanes_frees (hstep : c ≠ .timebaseStep) (hinput : c ≠ .inputLost) (b : Bool) (ks : List (Fin 12))
    (s : State) {j : Fin 12} (hj : j ∈ ks) : ((s.abortLanes c b ks).lane j).state = .free := by
  induction ks generalizing s with
  | nil => cases hj
  | cons k ks ih =>
    have rest : Work (Aborting ks) (State.abortLane c b s k) (s.abortLanes c b (k :: ks)) :=
      State.abortLanes_aborting hstep hinput b ks _ fun _ => id
    rcases List.mem_cons.1 hj with rfl | hj
    · exact rest.aborting_free (State.abortLane_frees hstep hinput b s j)
    · exact ih (State.abortLane c b s k) hj

end Aborting

/-! ### The law of quiet channels under single updates (R11, R18, R36) -/

/-- The law reads the sync state, the channels' states, how many grants wait, and which lane serves which channel. -/
theorem State.Quiet.congr {s t : State} (h : s.Quiet)
    (sync : t.timebase.sync = .unsynced → s.timebase.sync = .unsynced)
    (state : ∀ ch, (t.chan ch).state = (s.chan ch).state)
    (queued : ∀ ch, (t.queue ch).length = (s.queue ch).length)
    (serving : ∀ l, (t.lane l).state = (s.lane l).state ∧ (t.lane l).channel = (s.lane l).channel) : t.Quiet where
  unsynced hu ch := by rw [state]; exact h.unsynced (sync hu) ch
  inactive ch hi := by
    rw [state] at hi
    obtain ⟨empty, noLane⟩ := h.inactive ch hi
    refine ⟨List.eq_nil_of_length_eq_zero (by rw [queued, empty]; rfl), fun l => ?_⟩
    rw [State.serves_eq_false, (serving l).1, (serving l).2, ← State.serves_eq_false]
    exact noLane l
  depth ch := by rw [queued]; exact h.depth ch

/-- A channel replaced: the law asks of the new one what it asks of every channel. -/
theorem State.Quiet.setChan {s : State} (h : s.Quiet) {ch : Fin 6} {c : Channel}
    (unsynced : s.timebase.sync = .unsynced → c.state.active = false)
    (inactive : c.state.active = false → c.queue = [] ∧ ∀ l, s.serves l ch = false)
    (depth : c.queue.length ≤ Config.queueDepth) : (s.setChan ch c).Quiet where
  unsynced hu k := by
    rw [State.setChan_chan]
    split
    · exact unsynced hu
    · exact h.unsynced hu k
  inactive k hi := by
    rw [State.setChan_chan] at hi
    rw [State.setChan_queue]
    by_cases e : ch = k
    · subst e
      rw [if_pos rfl] at hi ⊢
      exact inactive hi
    · rw [if_neg e] at hi ⊢
      exact h.inactive k hi
  depth k := by
    rw [State.setChan_queue]
    split
    · exact depth
    · exact h.depth k

/-- A channel replaced by one in the same state with the same queue. -/
theorem State.Quiet.setChan_same {s : State} (h : s.Quiet) {ch : Fin 6} {c : Channel} (state : c.state = (s.chan ch).state)
    (queue : c.queue = s.queue ch) : (s.setChan ch c).Quiet :=
  h.setChan (fun hu => by rw [state]; exact h.unsynced hu ch)
    (fun hi => by rw [queue]; exact h.inactive ch (by rw [← state]; exact hi)) (by rw [queue]; exact h.depth ch)

section Updates

variable {s : State} (h : s.Quiet)
include h

theorem State.Quiet.setTimebase {t : Timebase} (ht : t.sync = .unsynced → s.timebase.sync = .unsynced) :
    (s.setTimebase t).Quiet := h.congr ht (fun _ => rfl) (fun _ => rfl) fun _ => ⟨rfl, rfl⟩

theorem State.Quiet.setSync {x : SyncState} (hx : x ≠ .unsynced) : (s.setSync x).Quiet :=
  h.setTimebase fun e => absurd e hx

theorem State.Quiet.setLastMark (t : Tick) : (s.setLastMark t).Quiet := h.setTimebase id

theorem State.Quiet.setProf (p : Fin 384) (x : Profile) : (s.setProf p x).Quiet := ⟨h.unsynced, h.inactive, h.depth⟩

theorem State.Quiet.setOutput (o : OutputQueue) : (s.setOutput o).Quiet := ⟨h.unsynced, h.inactive, h.depth⟩

theorem State.Quiet.setLink (n : NodeLink) : (s.setLink n).Quiet := ⟨h.unsynced, h.inactive, h.depth⟩

theorem State.Quiet.setSweep (w : Sweep) : (s.setSweep w).Quiet := ⟨h.unsynced, h.inactive, h.depth⟩

theorem State.Quiet.setDirectory (d : List DirEntry) : (s.setDirectory d).Quiet := ⟨h.unsynced, h.inactive, h.depth⟩

theorem State.Quiet.setTransfer (t : Option Transfer) : (s.setTransfer t).Quiet := h.setLink _

theorem State.Quiet.respond (m : Message) (st : Status) (fs : List Byte) : (s.respond m st fs).Quiet := h.setOutput _

theorem State.Quiet.notify (e : NoticeEvent) : (s.notify e).Quiet := h.setOutput _

theorem State.Quiet.setCounter (t : Tick) : (s.setCounter t).Quiet :=
  h.congr id (fun _ => by simp) (fun _ => by simp) fun _ => by simp

theorem State.Quiet.stepCounter (t : Tick) : (s.stepCounter t).Quiet :=
  h.congr id (fun _ => by simp) (fun _ => by simp) fun _ => by simp

/-- Work of the reception keeps the law. -/
theorem State.Quiet.work {t : State} (hw : Work (Receiving True) s t) : t.Quiet := hw.quiet (fun _ => h) trivial

end Updates

theorem quiet_linkBlind : LinkBlind State.Quiet where
  setLink _ n _ h := h.setLink n
  respond _ m st fs h := h.respond m st fs

/-! ### Halted channels (R10, R23) -/

/-- The law of quiet channels without its clause on UNSYNCED, which does not hold while the channels are being halted. -/
def State.Housed (s : State) : Prop := (s.setSync .synced).Quiet

theorem State.quiet_iff {s : State} :
    s.Quiet ↔ s.Housed ∧ (s.timebase.sync = .unsynced → ∀ ch, (s.chan ch).state.active = false) :=
  ⟨fun h => ⟨h.setSync (by decide), h.unsynced⟩, fun ⟨h, hu⟩ => ⟨hu, h.inactive, h.depth⟩⟩

theorem Act.apply_setSync (a : Act) (s : State) (x : SyncState) : a.apply (s.setSync x) = (a.apply s).setSync x := by
  cases a with
  | record r => simp only [Act.apply, State.emitRecord, State.setSync, State.setTimebase, State.setOutput, State.counter]
  | notice e => simp only [Act.apply, State.notify, State.setSync, State.setTimebase, State.setOutput, State.counter]
  | _ => rfl

theorem Act.receives_setSync {q : Prop} {a : Act} {s : State} (x : SyncState) (h : a.Receives q s) :
    a.Receives q (s.setSync x) := by
  cases a <;> exact h

/-- The acts of the reception do not look at the sync state. -/
theorem Work.housed {s t : State} (h : Work (Receiving True) s t) (hs : s.Housed) : t.Housed :=
  h.keeps (P := State.Housed)
    (fun s a ha hs => by
      unfold State.Housed
      rw [← a.apply_setSync]
      exact Act.receives_quiet (Act.receives_setSync _ ha) hs) hs

/-- The reception makes no channel RUNNING or STOPPING. -/
theorem Work.inactive {q : Prop} {s t : State} (h : Work (Receiving q) s t) {ch : Fin 6}
    (hs : (s.chan ch).state.active = false) : (t.chan ch).state.active = false := by
  refine h.keeps (P := fun u => (u.chan ch).state.active = false) (fun u a _ hu => ?_) hs
  cases a with
  | ready c =>
    simp only [Act.apply, State.setChanState_chan_state]
    split
    · rfl
    · exact hu
  | queue c r => simpa [Act.apply] using hu
  | record r => simpa [Act.apply] using hu
  | notice e => simpa [Act.apply] using hu
  | lane l x => exact hu
  | prof p x => exact hu

section Halt

variable {s : State} {c : AbortCause}

/-- The aborts of a halt leave the channel without a lane. -/
theorem State.abortLanes_serves (hstep : c ≠ .timebaseStep) (hinput : c ≠ .inputLost) (s : State) (ch : Fin 6) (l : Fin 12) :
    (s.abortLanes c false (s.lanesOf ch)).serves l ch = false := by
  by_cases hl : l ∈ s.lanesOf ch
  · exact State.serves_eq_false.2 (.inl (State.abortLanes_frees hstep hinput false _ s hl))
  · have work := State.abortLanes_aborting (ls := s.lanesOf ch) hstep hinput false _ s fun _ => id
    obtain ⟨state, -, channel, -⟩ := (work.aborting_lane l).resolve_right fun h => hl h.1
    rw [State.mem_lanesOf, Bool.not_eq_true, State.serves_eq_false] at hl
    rw [State.serves_eq_false, state, channel]
    exact hl

/-- A halted channel is READY, its queue empty, its lanes FREE. -/
theorem State.haltChannel_housed (hstep : c ≠ .timebaseStep) (hinput : c ≠ .inputLost) (hs : s.Housed) (ch : Fin 6) :
    (s.haltChannel ch c).Housed := by
  have flushed : (s.flush ch).Housed :=
    State.Quiet.setChan (s := s.setSync .synced) hs (fun e => nomatch e) (fun hi => ⟨rfl, (hs.inactive ch hi).2⟩)
      (Nat.zero_le _)
  have work := State.abortLanes_aborting (ls := (s.flush ch).lanesOf ch) hstep hinput false _ (s.flush ch) fun _ => id
  have empty : ((s.flush ch).abortLanes c false ((s.flush ch).lanesOf ch)).queue ch = [] := by
    rw [work.aborting_queue]
    simp [State.flush]
  have aborted := (work.mono fun _ _ => Act.Aborts.receives (q := True)).housed flushed
  exact State.Quiet.setChan aborted (fun e => nomatch e)
    (fun _ => ⟨empty, State.abortLanes_serves hstep hinput _ ch⟩) (aborted.depth ch)

/-- A halt makes its channel inactive and no other active. -/
theorem State.haltChannel_inactive (hstep : c ≠ .timebaseStep) (hinput : c ≠ .inputLost) {ch k : Fin 6}
    (hk : ch = k ∨ (s.chan k).state.active = false) : ((s.haltChannel ch c).chan k).state.active = false := by
  unfold State.haltChannel
  rw [State.setChanState_chan_state]
  split
  · rfl
  · rename_i ne
    have work := State.abortLanes_aborting (ls := (s.flush ch).lanesOf ch) hstep hinput false _ (s.flush ch) fun _ => id
    refine (work.mono fun _ _ => Act.Aborts.receives (q := True)).inactive ?_
    rw [State.flush, State.setQueue_chan_state]
    exact hk.resolve_left ne

theorem State.haltChannel_timebase (hstep : c ≠ .timebaseStep) (hinput : c ≠ .inputLost) (s : State) (ch : Fin 6) :
    (s.haltChannel ch c).timebase = s.timebase :=
  (State.abortLanes_aborting (ls := (s.flush ch).lanesOf ch) hstep hinput false _ (s.flush ch) fun _ => id).frame.timebase

theorem State.Quiet.haltChannel (hs : s.Quiet) (hstep : c ≠ .timebaseStep) (hinput : c ≠ .inputLost) (ch : Fin 6) :
    (s.haltChannel ch c).Quiet := by
  obtain ⟨housed, unsynced⟩ := State.quiet_iff.1 hs
  refine State.quiet_iff.2 ⟨State.haltChannel_housed hstep hinput housed ch, fun hu k => ?_⟩
  rw [State.haltChannel_timebase hstep hinput] at hu
  exact State.haltChannel_inactive hstep hinput (.inr (unsynced hu k))

end Halt

/-- What the loss of sync does to one channel (R10). -/
def State.haltIfActive (s : State) (ch : Fin 6) : State :=
  if (s.chan ch).state.active then s.haltChannel ch .syncLost else s

theorem State.loseSync_eq (s : State) :
    s.loseSync =
      channelIds.foldl State.haltIfActive ((s.setSync .unsynced).notify (.syncLost s.timebase.holdoverStart)) := rfl

theorem State.haltIfActive_housed {s : State} (hs : s.Housed) (ch : Fin 6) : (s.haltIfActive ch).Housed := by
  unfold State.haltIfActive
  split
  · exact State.haltChannel_housed (by decide) (by decide) hs ch
  · exact hs

theorem State.haltIfActive_inactive {s : State} {ch k : Fin 6} (hk : ch = k ∨ (s.chan k).state.active = false) :
    ((s.haltIfActive ch).chan k).state.active = false := by
  unfold State.haltIfActive
  split
  · exact State.haltChannel_inactive (by decide) (by decide) hk
  · rename_i h
    rcases hk with rfl | hk
    · simpa using h
    · exact hk

/-- Every channel of the list, and every one inactive before, is inactive in the end. -/
theorem haltIfActive_foldl : ∀ (chs : List (Fin 6)) (s : State), s.Housed →
    (chs.foldl State.haltIfActive s).Housed ∧
      ∀ k, k ∈ chs ∨ (s.chan k).state.active = false → ((chs.foldl State.haltIfActive s).chan k).state.active = false
  | [], s, hs => ⟨hs, fun k hk => hk.resolve_left List.not_mem_nil⟩
  | ch :: chs, s, hs => by
    obtain ⟨housed, inactive⟩ := haltIfActive_foldl chs (s.haltIfActive ch) (State.haltIfActive_housed hs ch)
    refine ⟨housed, fun k hk => inactive k ?_⟩
    rw [List.mem_cons] at hk
    rcases hk with (rfl | hk) | hk
    · exact .inr (State.haltIfActive_inactive (.inl rfl))
    · exact .inl hk
    · exact .inr (State.haltIfActive_inactive (.inr hk))

theorem mem_channelIds (ch : Fin 6) : ch ∈ channelIds := by revert ch; decide

/-- The loss of sync leaves no channel RUNNING or STOPPING, so the law holds in UNSYNCED again. -/
theorem State.Quiet.loseSync {s : State} (h : s.Quiet) : s.loseSync.Quiet := by
  have start : ((s.setSync .unsynced).notify (.syncLost s.timebase.holdoverStart)).Housed :=
    State.Quiet.mk (fun e => nomatch e) h.inactive h.depth
  obtain ⟨housed, inactive⟩ := haltIfActive_foldl channelIds _ start
  rw [State.loseSync_eq]
  exact State.quiet_iff.2 ⟨housed, fun _ k => inactive k (.inl (mem_channelIds k))⟩

end Sys2Proof.Machine
end

section
/-! The law of quiet channels (R11) is kept by the operation of every command, and so by every step. -/

namespace Sys2Proof.Machine

section Operations

variable {s : State} (h : s.Quiet)
include h

/-! ### The timebase (chapter 1) -/

theorem State.Quiet.resync : s.resync.Quiet := by
  unfold State.resync
  split
  · exact (h.setSync (by decide)).notify _
  · exact h
  · exact h

theorem State.Quiet.firstMark (t : Tick) : (s.firstMark t).Quiet :=
  (((h.setCounter t).setSync (by decide)).setLastMark t).notify _

theorem State.Quiet.moveMark (d : Int) : (s.moveMark d).Quiet := ((h.setCounter _).setLastMark _).resync

/-- The armings of a forward step (R8). -/
theorem State.Quiet.armAll (pool : List (Fin 12)) : (s.armAll pool).Quiet := by
  refine h.work (Work.foldl _ (fun u ch hu => ?_) channelIds s fun _ => h)
  split
  · exact (u.runQueue_work pool ch hu).trans (State.settle_work _ _)
  · exact .refl u

theorem State.Quiet.abortLanes (c : AbortCause) (b : Bool) (ls : List (Fin 12)) : (s.abortLanes c b ls).Quiet :=
  h.work (s.abortLanes_work c b ls fun _ => h)

theorem State.Quiet.stepMark (t : Tick) (d : Int) : (s.stepMark t d).Quiet := by
  have aborted := (h.stepCounter t).abortLanes .timebaseStep (decide (0 < d))
    (laneIds.filter fun l => ((s.stepCounter t).lane l).state != .free)
  unfold State.stepMark
  dsimp only
  split
  · exact (((aborted.armAll _).notify _).setLastMark t).resync
  · exact ((aborted.notify _).setLastMark t).resync

/-- A time mark that is taken (R5, R6, R7). -/
theorem State.Quiet.takeMark (t : Tick) : (s.takeMark t).Quiet := by
  unfold State.takeMark
  split
  · exact h.firstMark t
  all_goals
    dsimp only
    split
    · exact h.moveMark _
    · exact h.stepMark t _

/-- The entry to HOLDOVER marks lanes and frees none (R9, R12). -/
theorem State.Quiet.enterHoldover : s.enterHoldover.Quiet := by
  have entered := h.setTimebase (t := { s.timebase with sync := .holdover, holdoverStart := s.counter }) fun e => nomatch e
  unfold State.enterHoldover
  refine State.Quiet.notify ?_ _
  refine entered.congr id (fun _ => rfl) (fun _ => rfl) fun l => ?_
  simp only [State.lane, Fin.getElem_fin, Vector.getElem_map, Lane.markHoldover, State.setTimebase_lanes]
  split <;> exact ⟨rfl, rfl⟩

theorem State.Quiet.expireNow : s.expireNow.Quiet := by
  unfold State.expireNow
  split
  · exact h.enterHoldover
  · split
    · exact h.loseSync
    · exact h

/-! ### Channels and intake (chapters 2 and 3) -/

theorem State.Quiet.settle (ch : Fin 6) : (s.settle ch).Quiet := h.work (s.settle_work ch)

theorem State.Quiet.channelSet (m : Message) (c : ChannelSettings) (ch : Fin 6) : (s.channelSet m c ch).Quiet := by
  unfold State.channelSet
  split
  · exact h.respond _ _ _
  · rename_i hi
    refine State.Quiet.respond ?_ _ _ _
    exact h.setChan (fun _ => rfl) (fun _ => h.inactive ch (by simpa using hi)) (h.depth ch)

/-- CHANNEL START makes a channel RUNNING outside UNSYNCED alone (R20). -/
theorem State.Quiet.channelStart (m : Message) (ch : Fin 6) : (s.channelStart m ch).Quiet := by
  unfold State.channelStart
  split
  · exact h.respond _ _ _
  · exact h.respond _ _ _
  · exact h.respond _ _ _
  · split
    · exact h.respond _ _ _
    · rename_i synced
      refine State.Quiet.respond ?_ _ _ _
      exact h.setChan (fun hu => absurd hu synced) (fun e => nomatch e) (h.depth ch)

/-- A RUNNING channel that stops was RUNNING outside UNSYNCED already (R21, R22). -/
theorem State.Quiet.channelStop (m : Message) (ch : Fin 6) : (s.channelStop m ch).Quiet := by
  unfold State.channelStop
  split
  · exact h.respond _ _ _
  · exact h.respond _ _ _
  · exact h.respond _ _ _
  · rename_i running
    have stopping : (s.setChanState ch .stopping).Quiet :=
      h.setChan (fun hu => by have := h.unsynced hu ch; rw [running] at this; cases this) (fun e => nomatch e) (h.depth ch)
    exact (stopping.settle ch).respond _ _ _

theorem State.Quiet.channelHalt (m : Message) (ch : Fin 6) : (s.channelHalt m ch).Quiet := by
  unfold State.channelHalt
  split
  · exact h.respond _ _ _
  · exact h.respond _ _ _
  all_goals exact (h.haltChannel (by decide) (by decide) ch).respond _ _ _

omit h in
/-- A grant that is accepted finds a free place in its queue (R43). -/
theorem State.judgeGrant_room {ch : Fin 6} {g : Grant} {q : QueuedGrant} (hg : s.judgeGrant ch g = .ok q) :
    (s.queue ch).length < Config.queueDepth := by
  unfold State.judgeGrant at hg
  dsimp only at hg
  iterate 6
    split at hg
    · cases hg
  rename_i places
  exact not_le.1 places

omit h in
/-- Intake on a channel that is RUNNING or STOPPING (R38). -/
theorem intake_quiet (ch : Fin 6) : ∀ (gs : List Grant) (s : State) (n : Nat) (b : Bool), s.Quiet →
    (s.chan ch).state.active = true → (intake ch gs s n b).1.Quiet
  | [], s, _, _, h, _ => h
  | g :: gs, s, n, b, h, active => by
    unfold intake
    split
    · exact h
    · rename_i q hg
      have room := s.judgeGrant_room hg
      refine intake_quiet ch gs _ _ _ (h.setChan (fun hu => h.unsynced hu ch) ?_ ?_) ?_
      · exact fun hi => absurd (active.symm.trans hi) (by decide)
      · simp only [List.length_append, List.length_singleton]; omega
      · rw [State.setQueue_chan_state]; exact active

theorem State.Quiet.schedule (m : Message) (gs : List Grant) (ch : Fin 6) : (s.schedule m gs ch).Quiet := by
  unfold State.schedule
  split
  · rename_i running
    exact (intake_quiet ch gs s 0 false h (by rw [running]; rfl)).respond _ _ _
  · exact h.respond _ _ _

/-! ### Stations (chapter 7) -/

theorem State.Quiet.bind (m : Message) (r : BindRequest) : (s.bind m r).Quiet := by
  unfold State.bind
  split
  · split
    · dsimp only
      split
      · exact h.respond _ _ _
      · split
        · exact h.respond _ _ _
        · split
          · exact h.respond _ _ _
          · exact ((h.setProf _ _).setDirectory _).respond _ _ _
    · exact h.respond _ _ _
  · exact h.respond _ _ _

theorem State.Quiet.unbind (m : Message) (station ch : Nat) : (s.unbind m station ch).Quiet := by
  unfold State.unbind
  split
  · dsimp only
    split
    · exact h.respond _ _ _
    · exact ((h.setProf _ _).setDirectory _).respond _ _ _
  · exact h.respond _ _ _

theorem State.Quiet.onBoundProfile (m : Message) (p : Nat) (f : Profile → Profile) : (s.onBoundProfile m p f).Quiet := by
  unfold State.onBoundProfile
  split
  · dsimp only
    split
    · exact h.respond _ _ _
    · exact h.respond _ _ _
    all_goals exact (h.setProf _ _).respond _ _ _
  · exact h.respond _ _ _

theorem State.Quiet.visit : s.visit.Quiet := by
  have visited : (s.visitProfile s.sweep.pointer).Quiet := by
    unfold State.visitProfile
    dsimp only
    split
    · split
      · exact (h.setProf _ _).notify _
      · exact h.setProf _ _
    · exact h
  exact visited.setSweep _

theorem State.Quiet.alignProfile (p : Fin 384) : (s.alignProfile p).Quiet := by
  unfold State.alignProfile
  dsimp only
  split
  · split
    · exact (h.setProf _ _).notify _
    · exact h
  · exact h.setProf _ _
  · exact h
  · exact h

theorem State.Quiet.alignAges : s.alignAges.Quiet :=
  List.foldlRecOn profileIds State.alignProfile h fun _ hu p _ => hu.alignProfile p

/-! ### Tables (section 10.3) -/

theorem State.Quiet.seek (m : Message) (t : TableId) (ch i : Nat) : (s.seek m t ch i).Quiet := by
  unfold State.seek
  split
  · exact h.respond _ _ _
  · split
    · exact h.respond _ _ _
    · exact (h.setLink _).respond _ _ _

theorem State.Quiet.endPut (tag : Byte) (st : Status) (n : Nat) : (s.endPut tag st n).Quiet :=
  (h.setTransfer none).respond _ _ _

theorem State.Quiet.put (tag : Byte) (items : List PutItem) : (s.put tag items).Quiet := by
  unfold State.put
  split
  · exact h.endPut _ _ _
  · exact h.setTransfer _

/-- A pattern item changes patterns and classes alone (R30, R32). -/
theorem State.Quiet.writePattern {i : Fin 8} {qs : List Quadrant} {t : State} {b : Bool}
    (ht : s.writePattern i qs = .taken t b) : t.Quiet := by
  unfold State.writePattern at ht
  split at ht
  · cases ht
  · cases ht
    exact h.congr id (fun ch => by simp [State.chan]) (fun ch => by simp [State.queue, State.chan]) fun _ => ⟨rfl, rfl⟩

theorem State.Quiet.writeClass {ch i : Fin 6} {e : ClassEntry} {t : State} {b : Bool}
    (ht : s.writeClass ch i e = .taken t b) : t.Quiet := by
  unfold State.writeClass at ht
  split at ht
  · cases ht
  · cases ht
    exact h.setChan_same rfl rfl

theorem State.Quiet.writeItem {a : AccessPointer} {i : PutItem} {t : State} {b : Bool} (ht : s.writeItem a i = .taken t b) :
    t.Quiet := by
  cases i with
  | classEntry e => exact h.writeClass ht
  | pattern qs => exact h.writePattern ht
  | coefficient c => cases ht; exact h.setProf _ _
  | profileFields c b rl => cases ht; exact h.setProf _ _

theorem State.Quiet.putOne (tag : Byte) (i : PutItem) (left : List PutItem) (n : Nat) (b : Bool) :
    (s.putOne tag i left n b).Quiet := by
  unfold State.putOne
  split
  · exact h.endPut _ _ _
  · rename_i t c ht
    have moved := (h.writeItem ht).setLink { t.link with pointer := t.link.pointer.advance }
    dsimp only
    split
    · exact moved.endPut _ _ _
    · split
      · exact moved.endPut _ _ _
      · exact moved.setTransfer _

theorem State.Quiet.endGet (tag : Byte) (a : AccessPointer) (st : Status) (n : Nat) (got : List Byte) :
    (s.endGet tag a st n got).Quiet := (h.setTransfer none).respond _ _ _

theorem State.Quiet.get (tag : Byte) (n : Nat) : (s.get tag n).Quiet := by
  unfold State.get
  split
  · exact h.endGet _ _ _ _ _
  · exact h.setTransfer _

theorem State.Quiet.getOne (tag : Byte) (a : AccessPointer) (left n : Nat) (got : List Byte) :
    (s.getOne tag a left n got).Quiet := by
  have moved := h.setLink { s.link with pointer := s.link.pointer.advance }
  unfold State.getOne
  dsimp only
  split
  · exact moved.endGet _ _ _ _ _
  · split
    · exact moved.endGet _ _ _ _ _
    · exact moved.setTransfer _

theorem State.Quiet.unlessFull {t : State} (ht : t.Quiet) (room : Nat) : (s.unlessFull t room).Quiet := by
  unfold State.unlessFull
  split
  · exact ht
  · exact h

/-! ### The node (sections 1.6, 1.7 and 10.4) -/

theorem State.Quiet.applySettings (n : NodeSettings) : (s.applySettings n).Quiet :=
  State.Quiet.setSweep (h.setTimebase (t := { s.timebase with
    markTimeout := n.markTimeout, holdoverLimit := n.holdoverLimit, stepTolerance := n.stepTolerance }) id) _

theorem State.Quiet.nodeSet (m : Message) (n : NodeSettings) : (s.nodeSet m n).Quiet := by
  have expired := ((h.applySettings (clampSettings n)).respond m
    (clampStatus (decide (clampSettings n ≠ n))) []).expireNow
  unfold State.nodeSet
  dsimp only
  refine State.Quiet.setSweep ?_ _
  split
  · exact expired.alignAges
  · exact expired

omit h in
/-- RESET NODE leaves every channel OFF, every queue empty and every lane FREE, whatever stood before (R16, R34, R78). -/
theorem State.nodeReset_quiet (s : State) : s.nodeReset.Quiet where
  unsynced _ ch := by simp [State.nodeReset, State.chan, Channel.atNodeReset, ChannelState.active]
  inactive ch _ :=
    ⟨by simp [State.nodeReset, State.queue, State.chan, Channel.atNodeReset],
      fun l => State.serves_eq_false.2 (.inl (by simp [State.nodeReset, State.lane, Lane.idle]))⟩
  depth ch := by simp [State.nodeReset, State.queue, State.chan, Channel.atNodeReset]

theorem State.Quiet.receiveFrame (bytes : List Byte) : (s.receiveFrame bytes).Quiet := by
  unfold State.receiveFrame
  split
  · exact h
  · split
    · exact h.setLink _
    · exact h

theorem State.Quiet.sendFrame : s.sendFrame.Quiet := by
  unfold State.sendFrame
  split
  · exact h
  · split
    · exact h.setOutput _
    · exact h

/-! ### Messages taken (R186) -/

variable (m : Message)

theorem State.Quiet.takeTimeMark : (s.takeTimeMark m).Quiet := quiet_linkBlind.passOn (fun _ _ h => h.takeMark _) h

theorem State.Quiet.takeNodeSet : (s.takeNodeSet m).Quiet := quiet_linkBlind.passOn (fun _ _ h => h.nodeSet m _) h

theorem State.Quiet.takeResetNode : (s.takeResetNode m).Quiet :=
  quiet_linkBlind.passOn (fun _ _ _ => State.nodeReset_quiet _) h

theorem State.Quiet.takeChannelSet : (s.takeChannelSet m).Quiet :=
  quiet_linkBlind.passOn (fun c _ h => quiet_linkBlind.onChannel (fun ch => h.channelSet m c ch) h) h

theorem State.Quiet.takeChannelStart : (s.takeChannelStart m).Quiet :=
  quiet_linkBlind.passOn (fun _ _ h => quiet_linkBlind.onChannel (fun ch => h.channelStart m ch) h) h

theorem State.Quiet.takeChannelStop : (s.takeChannelStop m).Quiet :=
  quiet_linkBlind.passOn (fun _ _ h => quiet_linkBlind.onChannel (fun ch => h.channelStop m ch) h) h

theorem State.Quiet.takeChannelHalt : (s.takeChannelHalt m).Quiet :=
  quiet_linkBlind.passOn (fun _ _ h => quiet_linkBlind.onChannel (fun ch => h.channelHalt m ch) h) h

theorem State.Quiet.takeSchedule : (s.takeSchedule m).Quiet :=
  quiet_linkBlind.passOn (fun r _ h => quiet_linkBlind.onChannel (fun ch => h.schedule m r.2 ch) h) h

theorem State.Quiet.takeProfileBind : (s.takeProfileBind m).Quiet := quiet_linkBlind.passOn (fun _ _ h => h.bind m _) h

theorem State.Quiet.takeProfileUnbind : (s.takeProfileUnbind m).Quiet :=
  quiet_linkBlind.passOn (fun _ _ h => h.unbind m _ _) h

theorem State.Quiet.takeProfileRevert : (s.takeProfileRevert m).Quiet :=
  quiet_linkBlind.passOn (fun _ _ h => h.onBoundProfile m _ _) h

theorem State.Quiet.takeProfileClear : (s.takeProfileClear m).Quiet :=
  quiet_linkBlind.passOn (fun _ _ h => h.onBoundProfile m _ _) h

theorem State.Quiet.takeTableSeek : (s.takeTableSeek m).Quiet := quiet_linkBlind.passOn (fun _ _ h => h.seek m _ _ _) h

theorem State.Quiet.takeTablePut : (s.takeTablePut m).Quiet := quiet_linkBlind.passOn (fun _ _ h => h.put _ _) h

theorem State.Quiet.takeTableGet : (s.takeTableGet m).Quiet := quiet_linkBlind.passOn (fun _ _ h => h.get _ _) h

theorem State.Quiet.takeDirectoryGet : (s.takeDirectoryGet m).Quiet :=
  quiet_linkBlind.passOn (fun _ _ h => h.respond _ _ _) h

theorem State.Quiet.takeStatusGet : (s.takeStatusGet m).Quiet := quiet_linkBlind.passOn (fun _ _ h => h.respond _ _ _) h

theorem State.Quiet.takeUnknown : (s.takeUnknown m).Quiet := quiet_linkBlind.passOn (fun _ _ h => h) h

omit h in
theorem State.Quiet.ite {p : Prop} [Decidable p] {t e : State} (ht : t.Quiet) (he : e.Quiet) :
    (if p then t else e).Quiet := by
  split
  · exact ht
  · exact he

/-- Whatever kind a message has, its owner keeps the law. -/
theorem State.Quiet.takeMessage : (s.takeMessage m).Quiet :=
  (h.takeTimeMark m).ite <|
  (h.takeNodeSet m).ite <|
  (h.takeResetNode m).ite <|
  (h.takeChannelSet m).ite <|
  (h.takeChannelStart m).ite <|
  (h.takeChannelStop m).ite <|
  (h.takeChannelHalt m).ite <|
  (h.takeSchedule m).ite <|
  (h.takeProfileBind m).ite <|
  (h.takeProfileUnbind m).ite <|
  (h.takeProfileRevert m).ite <|
  (h.takeProfileClear m).ite <|
  (h.takeTableSeek m).ite <|
  (h.takeTablePut m).ite <|
  (h.takeTableGet m).ite <|
  (h.takeDirectoryGet m).ite <|
  (h.takeStatusGet m).ite <|
  h.takeUnknown m

/-- The request held for room, passed on within FRAME_SEND (R179). -/
theorem State.Quiet.takeHeld : s.takeHeld.Quiet := by
  unfold State.takeHeld
  split
  · exact h
  · split
    · exact h.takeMessage _
    · exact h

end Operations

/-! ### Commands -/

/-- RESET_N low: every channel OFF, every queue empty, every lane FREE (R15, R33, R55, R79). -/
theorem execResetNAssert_quiet {s t : State} (ht : execResetNAssert s = .next t) : t.Quiet := by
  cases ht
  refine ⟨fun _ ch => ?_, fun ch _ => ⟨?_, fun l => State.serves_eq_false.2 (.inl ?_)⟩, fun ch => ?_⟩
  · simp [State.chan, Channel.reset, ChannelState.active]
  · simp [State.queue, State.chan, Channel.reset]
  · simp [State.lane, State.reset, Lane.idle]
  · simp [State.queue, State.chan, Channel.reset]

/-- An event that is not due leaves the state; one that is due keeps the law when its effect `f` does. -/
theorem event_quiet {s t : State} {p : State → Prop} [∀ u, Decidable (p u)] {f : State → State}
    (h : s.Quiet) (hf : p s → (f s).Quiet)
    (ht : Host.Outcome.next (φ := Fault) (ρ := Refusal) (s.unlessReset fun s => if p s then f s else s) = .next t) :
    t.Quiet := by
  rw [← Host.Outcome.next.inj ht]
  refine State.unlessReset_keeps (fun h => ?_) h
  split
  · rename_i hp; exact hf hp
  · exact h

/-- Every command keeps the law. -/
theorem exec_quiet (c : Instr) {s t : State} (h : s.Quiet) (ht : exec c s = .next t) : t.Quiet := by
  have kept {f : State → State} (hf : s.Quiet → (f s).Quiet)
      (e : Host.Outcome.next (φ := Fault) (ρ := Refusal) (s.unlessReset f) = .next t) : t.Quiet :=
    Host.Outcome.next.inj e ▸ State.unlessReset_keeps hf h
  have request {m : Message} {take : State → Message → State} (htake : ∀ u : State, u.Quiet → (take u m).Quiet)
      (e : takeRequest m take s = .next t) : t.Quiet := quiet_linkBlind.takeRequest htake h e
  cases c with
  | resetNAssert => exact execResetNAssert_quiet ht
  | resetNRelease => cases ht; exact ⟨h.unsynced, h.inactive, h.depth⟩
  | frameReceived frame => exact kept (fun h => h.receiveFrame frame) ht
  | frameSend => exact kept (fun h => h.sendFrame.takeHeld) ht
  | timeMark tag body => exact request (fun _ h => h.takeTimeMark _) ht
  | markTimeoutExpiry => exact event_quiet h (fun _ => h.enterHoldover) ht
  | holdoverLimitExpiry => exact event_quiet h (fun _ => h.loseSync) ht
  | nodeSet tag body => exact request (fun _ h => h.takeNodeSet _) ht
  | resetNode tag body => exact request (fun _ h => h.takeResetNode _) ht
  | channelSet tag body => exact request (fun _ h => h.takeChannelSet _) ht
  | channelStart tag body => exact request (fun _ h => h.takeChannelStart _) ht
  | channelStop tag body => exact request (fun _ h => h.takeChannelStop _) ht
  | channelHalt tag body => exact request (fun _ h => h.takeChannelHalt _) ht
  | schedule tag body => exact request (fun _ h => h.takeSchedule _) ht
  | profileBind tag body => exact request (fun _ h => h.takeProfileBind _) ht
  | profileUnbind tag body => exact request (fun _ h => h.takeProfileUnbind _) ht
  | profileRevert tag body => exact request (fun _ h => h.takeProfileRevert _) ht
  | profileClear tag body => exact request (fun _ h => h.takeProfileClear _) ht
  | tableSeek tag body => exact request (fun _ h => h.takeTableSeek _) ht
  | tablePut tag body => exact request (fun _ h => h.takeTablePut _) ht
  | tableGet tag body => exact request (fun _ h => h.takeTableGet _) ht
  | directoryGet tag body => exact request (fun _ h => h.takeDirectoryGet _) ht
  | statusGet tag body => exact request (fun _ h => h.takeStatusGet _) ht
  | unknownKind kind tag body =>
    have ht : execUnknownKind kind tag body s = .next t := ht
    unfold execUnknownKind at ht
    split at ht
    · cases ht
    · exact request (fun _ h => h.takeUnknown _) ht
  | putItem =>
    refine kept (fun h => ?_) ht
    split
    · exact h.unlessFull (h.putOne _ _ _ _ _) _
    all_goals exact h
  | getItem =>
    refine kept (fun h => ?_) ht
    split
    · exact h.unlessFull (h.getOne _ _ _ _ _) _
    all_goals exact h
  | inputLockLost ch =>
    have lost : (s.setChan ch { s.chan ch with lock := .lost }).Quiet := h.setChan_same rfl rfl
    rw [← Host.Outcome.next.inj ht]
    exact State.unlessReset_keeps (fun h => h.abortLanes _ _ _) lost
  | inputLockLocked ch => cases ht; exact h.setChan_same rfl rfl
  | arming ch =>
    exact event_quiet h (fun _ => State.Quiet.settle (h.work (s.runQueue_work laneIds ch fun _ => h)) ch) ht
  | windowOpening l =>
    exact event_quiet h
      (fun hl => h.work (s.openWindow_work l (by rw [hl.1]; decide) fun _ => h)) ht
  | searchEnd l =>
    exact event_quiet h
      (fun hl => h.work (s.endSearch_work l (by rw [hl.1]; decide) fun _ => h)) ht
  | sampleArrival ch re im =>
    exact kept (fun h => h.work (Work.foldl _ (fun u l hu => u.laneSample_work l _ hu) _ s fun _ => h)) ht
  | endEvent l =>
    exact event_quiet h
      (fun hl => h.work (s.endOfGrant_work l (by rw [hl.1]; decide) fun _ => h)) ht
  | closeCompletion l => exact event_quiet h (fun _ => h.work (s.completeClose_work l)) ht
  | sweepVisit => exact event_quiet h (fun _ => h.visit) ht
  | tick => exact kept (fun h => h.setCounter _) ht

theorem step_quiet {s t : State} (h : s.Quiet) (ht : step s = .next t) : t.Quiet := by
  unfold step at ht
  split at ht
  · cases ht; exact h
  · rename_i c rest _
    exact exec_quiet c (s := { s with pending := rest }) ⟨h.unsynced, h.inactive, h.depth⟩ ht

/-- What the law says of UNSYNCED: a lane that is not FREE would serve its channel, which is not active. -/
theorem State.Quiet.at_unsynced {s : State} (h : s.Quiet) (hu : s.timebase.sync = .unsynced) :
    (∀ ch, (s.chan ch).state ≠ .running ∧ (s.chan ch).state ≠ .stopping ∧ s.queue ch = []) ∧
      ∀ l, (s.lane l).state = .free := by
  refine ⟨fun ch => ?_, fun l => ?_⟩
  · have inactive := h.unsynced hu ch
    refine ⟨fun e => ?_, fun e => ?_, (h.inactive ch inactive).1⟩
    all_goals rw [e] at inactive; cases inactive
  · have unserved := (h.inactive (s.lane l).channel (h.unsynced hu _)).2 l
    exact (State.serves_eq_false.1 unserved).resolve_right fun ne => ne rfl

/-- Settles O58: the law is kept operation by operation. The one passage through a state that breaks it, the loss of sync,
goes by `State.Housed`: the halts leave no channel active in UNSYNCED. -/
theorem stepsKeepUnsyncedChannelsQuiet : Obligations.StepsKeepUnsyncedChannelsQuiet := by
  unfold Obligations.StepsKeepUnsyncedChannelsQuiet
  exact ⟨fun _ _ => step_quiet, fun _ => State.Quiet.at_unsynced⟩

end Sys2Proof.Machine
end

section
/-! The search (chapter 5): its sums component by component, and the peak as the earliest of the largest candidates. -/

namespace Sys2Proof.Machine

/-! ### Sums over the reference symbols (R84) -/

/-- A sum of complex terms is the sum of each component. -/
theorem foldl_cxAdd (f : Nat → Cx) : ∀ (is : List Nat) (acc : Cx),
    is.foldl (fun acc i => acc.add (f i)) acc =
      ⟨acc.re + (is.map fun i => (f i).re).sum, acc.im + (is.map fun i => (f i).im).sum⟩
  | [], acc => by simp
  | i :: is, acc => by
    rw [List.foldl_cons, foldl_cxAdd f is]
    simp [Cx.add, add_assoc]

/-- The squared magnitude is never cut off at 0. -/
theorem Cx.sq_cast (c : Cx) : (c.sq : Int) = c.re * c.re + c.im * c.im :=
  Int.toNat_of_nonneg (add_nonneg (mul_self_nonneg _) (mul_self_nonneg _))

theorem Cx.conj_mul (a b : Cx) :
    a.conj.mul b = ⟨a.re * b.re + a.im * b.im, a.re * b.im - a.im * b.re⟩ := by
  simp [Cx.conj, Cx.mul, sub_eq_add_neg]

theorem Lane.correlation_eq (x : Lane) (o : Int) {p v : Nat → Cx} (hp : ∀ i, quadrantPoint (x.preamble.getD i 0) = p i)
    (hv : ∀ i : Nat, x.sampleAt (o + 4 * (i : Int)) = v i) :
    x.correlation o =
      ⟨((List.range x.lcorr).map fun i => (p i).re * (v i).re + (p i).im * (v i).im).sum,
       ((List.range x.lcorr).map fun i => (p i).re * (v i).im - (p i).im * (v i).re).sum⟩ := by
  unfold Lane.correlation
  simp only [hp, hv, foldl_cxAdd, Cx.conj_mul, Cx.zero, zero_add]

/-- The model's energy runs over the symbol numbers read as integers. -/
theorem Lane.candidateEnergy_cast (x : Lane) (o : Int) {v : Nat → Cx}
    (hv : ∀ i : Nat, x.sampleAt (o + 4 * (i : Int)) = v i) :
    (x.candidateEnergy o : Int) =
      ((List.range x.lcorr).map fun i => (v i).re * (v i).re + (v i).im * (v i).im).sum := by
  have indices : (do let i ← List.range x.lcorr; pure (i : Int)) = (List.range x.lcorr).map Nat.cast :=
    List.flatMap_pure_eq_map _ _
  unfold Lane.candidateEnergy
  rw [indices]
  simp only [hv, Nat.cast_list_sum, List.map_map, Function.comp_def, Cx.sq_cast]

/-! ### The peak (R82, R86) -/

/-- What R86 asks of a peak: a candidate of the largest power, the smallest among equals. -/
structure EarliestMax (power : Int → Nat) (os : List Int) (peak : Int) : Prop where
  mem : peak ∈ os
  largest : ∀ o ∈ os, power o ≤ power peak
  earliest : ∀ o ∈ os, power o = power peak → peak ≤ o

/-- One candidate more in front: it is passed over for a larger one behind it, which then bounds it strictly, or it stands
for the next one, which is neither larger nor earlier. -/
theorem peakOf_earliestMax (power : Int → Nat) : ∀ (os : List Int) (best : Int), (best :: os).Pairwise (· ≤ ·) →
    EarliestMax power (best :: os) (peakOf power os best)
  | [], best, _ => ⟨List.mem_singleton_self _, by simp [peakOf], by simp [peakOf]⟩
  | o :: os, best, sorted => by
    obtain ⟨front, behind⟩ := List.pairwise_cons.1 sorted
    rw [peakOf]
    split
    case isTrue passed =>
      obtain ⟨mem, largest, earliest⟩ := peakOf_earliestMax power os o behind
      have below := passed.trans_le (largest o List.mem_cons_self)
      exact ⟨List.mem_cons_of_mem _ mem, List.forall_mem_cons.2 ⟨below.le, largest⟩,
        List.forall_mem_cons.2 ⟨fun tie => absurd tie below.ne, earliest⟩⟩
    case isFalse kept =>
      have sorted' : (best :: os).Pairwise (· ≤ ·) := sorted.sublist ((List.sublist_cons_self o os).cons_cons best)
      obtain ⟨mem, largest, earliest⟩ := peakOf_earliestMax power os best sorted'
      obtain ⟨largestBest, largestRest⟩ := List.forall_mem_cons.1 largest
      obtain ⟨earliestBest, earliestRest⟩ := List.forall_mem_cons.1 earliest
      have notLarger : power o ≤ power best := not_lt.1 kept
      have notEarlier : best ≤ o := front o List.mem_cons_self
      refine ⟨?_, ?_, ?_⟩
      · exact (List.cons_sublist_cons.2 (List.sublist_cons_self o os)).subset mem
      · exact List.forall_mem_cons.2 ⟨largestBest, List.forall_mem_cons.2 ⟨notLarger.trans largestBest, largestRest⟩⟩
      · refine List.forall_mem_cons.2 ⟨earliestBest, List.forall_mem_cons.2 ⟨fun tie => ?_, earliestRest⟩⟩
        exact (earliestBest (by omega)).trans notEarlier

theorem Lane.mem_candidates (x : Lane) (o : Int) :
    o ∈ x.candidates ↔ ∃ i < 2 * x.halfWidth + 1, x.offset - (x.halfWidth : Int) + (i : Nat) = o := by
  simp [Lane.candidates]

theorem Lane.first_mem_candidates (x : Lane) : x.offset - (x.halfWidth : Int) ∈ x.candidates :=
  (x.mem_candidates _).2 ⟨0, by omega, by simp⟩

theorem Lane.first_le_of_mem_candidates {x : Lane} {o : Int} (ho : o ∈ x.candidates) :
    x.offset - (x.halfWidth : Int) ≤ o := by
  obtain ⟨i, -, rfl⟩ := (x.mem_candidates o).1 ho
  omega

theorem Lane.candidates_sorted (x : Lane) : x.candidates.Pairwise (· ≤ ·) :=
  List.pairwise_map.2 (List.pairwise_lt_range.imp fun h => by omega)

/-- The search starts from c − W, itself the first candidate. -/
theorem Lane.peak_earliestMax (x : Lane) : EarliestMax x.power x.candidates x.peak := by
  obtain ⟨mem, largest, earliest⟩ := peakOf_earliestMax x.power x.candidates (x.offset - x.halfWidth)
    (List.pairwise_cons.2 ⟨fun _ => Lane.first_le_of_mem_candidates, x.candidates_sorted⟩)
  refine ⟨?_, fun o ho => largest o (List.mem_cons_of_mem _ ho), fun o ho => earliest o (List.mem_cons_of_mem _ ho)⟩
  obtain first | later := List.mem_cons.1 mem
  · rw [Lane.peak, first]
    exact x.first_mem_candidates
  · exact later

/-- All candidates tie in silence, so the earliest of them is the peak. -/
theorem Lane.peak_of_silence {x : Lane} (silent : ∀ o ∈ x.candidates, x.correlation o = ⟨0, 0⟩) :
    x.peak = x.offset - (x.halfWidth : Int) := by
  obtain ⟨mem, -, earliest⟩ := x.peak_earliestMax
  have first := x.first_mem_candidates
  have tie : x.power (x.offset - (x.halfWidth : Int)) = x.power x.peak := by
    simp only [Lane.power, silent _ first, silent _ mem]
  exact le_antisymm (earliest _ first tie) (Lane.first_le_of_mem_candidates mem)

/-- Settles O44: the sums by components, and the peak by induction over the candidates in ascending order. -/
theorem searchTakesTheLargestCorrelation : Obligations.SearchTakesTheLargestCorrelation := by
  unfold Obligations.SearchTakesTheLargestCorrelation
  intro x p v hp hv
  have point : ∀ i, quadrantPoint (x.preamble.getD i 0) = p i := fun i => (hp i).symm
  have sample : ∀ (o : Int) (i : Nat), x.sampleAt (o + 4 * (i : Int)) = v o i := fun o i => (hv o i).symm
  obtain ⟨mem, largest, earliest⟩ := x.peak_earliestMax
  exact ⟨fun o => x.correlation_eq o point (sample o), fun o => x.candidateEnergy_cast o (sample o), rfl, mem, largest,
    earliest, Lane.peak_of_silence, decide_eq_true_iff⟩

end Sys2Proof.Machine
end

section
namespace Sys2Proof.Machine

/-! ### The MER index (R117) -/

theorem merFrom_le (err ref bound : Nat) : merFrom err ref bound ≤ bound := by
  induction bound with
  | zero => exact le_rfl
  | succ bound ih =>
    rw [merFrom]
    split
    case isTrue => exact le_rfl
    case isFalse => exact ih.trans bound.le_succ

/-- The search ends at exponent 0, where the product is the error sum itself. -/
theorem mul_two_pow_merFrom_le {err ref : Nat} (fits : err ≤ ref) (bound : Nat) :
    err * 2 ^ merFrom err ref bound ≤ ref := by
  induction bound with
  | zero => simpa [merFrom] using fits
  | succ bound ih =>
    rw [merFrom]
    split
    case isTrue fitsHere => exact fitsHere
    case isFalse => exact ih

/-- The search runs downwards, so it passes over an exponent only when the product exceeds the reference sum there. -/
theorem le_merFrom {err ref g bound : Nat} (within : g ≤ bound) (fits : err * 2 ^ g ≤ ref) :
    g ≤ merFrom err ref bound := by
  induction bound with
  | zero => exact within
  | succ bound ih =>
    rw [merFrom]
    split
    case isTrue => exact within
    case isFalse exceeds =>
      have passedOver : g ≠ bound + 1 := fun top => exceeds (top ▸ fits)
      exact ih (by omega)

theorem merIndex_zero (ref : Nat) : merIndex 0 ref = 31 := if_pos rfl

theorem merIndex_of_lt {err ref : Nat} (nonzero : err ≠ 0) (exceeds : ref < err) : merIndex err ref = 0 := by
  rw [merIndex, if_neg nonzero, if_pos exceeds]

theorem merIndex_of_le {err ref : Nat} (nonzero : err ≠ 0) (fits : err ≤ ref) :
    merIndex err ref = merFrom err ref 31 := by
  rw [merIndex, if_neg nonzero, if_neg fits.not_gt]

/-- Settles O54: the two special cases of the definition, and the downward search from 31 by induction on its start. -/
theorem theMerIndexIsTheLargestPower : Obligations.TheMerIndexIsTheLargestPower := by
  unfold Obligations.TheMerIndexIsTheLargestPower
  intro err ref
  refine ⟨?zeroError, merIndex_of_lt, ?search⟩
  case zeroError =>
    rintro rfl
    exact merIndex_zero ref
  case search =>
    intro nonzero fits
    rw [merIndex_of_le nonzero fits]
    exact ⟨merFrom_le err ref 31, mul_two_pow_merFrom_le fits 31, fun g => le_merFrom⟩

end Sys2Proof.Machine
end

section
/-! The law of the stations, taken apart: the listing of the directory, what the law asks of one profile by itself, and
what it asks of the roles toward one profile. -/

namespace Sys2Proof.Machine

/-! ### The directory's order (R127, R129) -/

theorem Key.lt_trans {a b c : Key} (hab : Key.lt a b = true) (hbc : Key.lt b c = true) : Key.lt a c = true := by
  simp only [Key.lt, decide_eq_true_eq] at *
  omega

theorem Key.not_lt_self (a : Key) : Key.lt a a = false := by
  simp [Key.lt]

/-- Two keys of which neither is the smaller are one key. -/
theorem Key.lt_of_not_lt {a b : Key} (h : Key.lt a b = false) (ne : a ≠ b) : Key.lt b a = true := by
  obtain ⟨s, c⟩ := a
  obtain ⟨t, d⟩ := b
  simp only [Key.lt, decide_eq_true_eq, decide_eq_false_iff_not, ne_eq, Key.mk.injEq, Fin.ext_iff] at *
  omega

theorem mem_insertEntry {e x : DirEntry} {d : List DirEntry} : x ∈ insertEntry e d ↔ x = e ∨ x ∈ d := by
  induction d with
  | nil => simp [insertEntry]
  | cons y d ih =>
    unfold insertEntry
    split
    · simp
    · simp only [List.mem_cons, ih]
      tauto

theorem length_insertEntry (e : DirEntry) (d : List DirEntry) : (insertEntry e d).length = d.length + 1 := by
  induction d with
  | nil => rfl
  | cons y d ih =>
    unfold insertEntry
    split
    · rfl
    · simp [ih]

/-- An entry with a new key is inserted where the order has its place. -/
theorem insertEntry_ordered {e : DirEntry} {d : List DirEntry} (new : ∀ x ∈ d, x.key ≠ e.key)
    (h : (d.map (·.key)).Pairwise fun a b => Key.lt a b = true) :
    ((insertEntry e d).map (·.key)).Pairwise fun a b => Key.lt a b = true := by
  induction d with
  | nil => simp [insertEntry]
  | cons y d ih =>
    simp only [List.map_cons, List.pairwise_cons, List.forall_mem_map] at h
    obtain ⟨least, rest⟩ := h
    unfold insertEntry
    split
    · rename_i before
      simp only [List.map_cons, List.pairwise_cons, List.mem_cons, List.forall_mem_map, forall_eq_or_imp]
      exact ⟨⟨before, fun x hx => Key.lt_trans before (least x hx)⟩, least, rest⟩
    · rename_i behind
      simp only [List.map_cons, List.pairwise_cons, List.forall_mem_map, mem_insertEntry, forall_eq_or_imp]
      exact ⟨⟨Key.lt_of_not_lt (by simpa using behind) (new y List.mem_cons_self).symm, least⟩,
        ih (fun x hx => new x (List.mem_cons_of_mem y hx)) rest⟩

theorem mem_removeEntry {k : Key} {x : DirEntry} {d : List DirEntry} : x ∈ removeEntry k d ↔ x ∈ d ∧ x.key ≠ k := by
  simp [removeEntry]

/-- The directory lists the profiles under their keys: in ascending key order, each profile with a key and no other. -/
structure Listing (d : List DirEntry) (key : Fin 384 → Option Key) : Prop where
  ordered : (d.map (·.key)).Pairwise fun a b => Key.lt a b = true
  size : d.length ≤ Config.directoryDepth
  named : ∀ e ∈ d, key e.profile = some e.key
  entered : ∀ p k, key p = some k → ⟨k, p⟩ ∈ d

section Listing

variable {d : List DirEntry} {key key' : Fin 384 → Option Key} {p : Fin 384} {k : Key}

theorem Listing.nodup_keys (h : Listing d key) : (d.map (·.key)).Nodup :=
  h.ordered.imp fun {a b} lt e => by rw [e, Key.not_lt_self] at lt; cases lt

/-- No profile is listed twice: it is listed under its one key, and no key is listed twice. -/
theorem Listing.nodup_profiles (h : Listing d key) : (d.map (·.profile)).Nodup := by
  have keys := List.pairwise_map.1 h.nodup_keys
  refine List.pairwise_map.2 (keys.imp_of_mem fun {a b} ha hb ne same => ne ?_)
  have one : some a.key = some b.key := by rw [← h.named a ha, ← h.named b hb, same]
  exact Option.some.inj one

theorem Listing.mem_iff (h : Listing d key) : (∃ e ∈ d, e.profile = p) ↔ (key p).isSome := by
  constructor
  · rintro ⟨e, he, rfl⟩
    rw [h.named e he]; rfl
  · intro hk
    obtain ⟨k, hk⟩ := Option.isSome_iff_exists.1 hk
    exact ⟨_, h.entered p k hk, rfl⟩

/-- A profile without a key is entered under a key that is not listed (R131). -/
theorem Listing.insert (h : Listing d key) (new : ∀ e ∈ d, e.key ≠ k) (room : d.length < Config.directoryDepth)
    (unkeyed : key p = none) (own : key' p = some k) (others : ∀ q, q ≠ p → key' q = key q) :
    Listing (insertEntry ⟨k, p⟩ d) key' where
  ordered := insertEntry_ordered new h.ordered
  size := by rw [length_insertEntry]; exact room
  named e he := by
    rcases mem_insertEntry.1 he with rfl | he
    · exact own
    · rw [others]
      · exact h.named e he
      · intro ep
        have named := h.named e he
        rw [ep, unkeyed] at named
        cases named
  entered q j hq := by
    rw [mem_insertEntry]
    by_cases e : q = p
    · subst e
      rw [own] at hq
      cases hq
      exact .inl rfl
    · rw [others q e] at hq
      exact .inr (h.entered q j hq)

/-- A listed profile loses its key and its entry (R132). -/
theorem Listing.remove (h : Listing d key) (keyed : key p = some k) (own : key' p = none)
    (others : ∀ q, q ≠ p → key' q = key q) : Listing (removeEntry k d) key' where
  ordered := List.Pairwise.sublist (List.filter_sublist.map _) h.ordered
  size := (List.length_filter_le _ _).trans h.size
  named e he := by
    obtain ⟨he, ne⟩ := mem_removeEntry.1 he
    rw [others]
    · exact h.named e he
    · intro ep
      have named := h.named e he
      rw [ep, keyed] at named
      exact ne (Option.some.inj named).symm
  entered q j hq := by
    have ne : q ≠ p := by rintro rfl; rw [own] at hq; cases hq
    rw [others q ne] at hq
    refine mem_removeEntry.2 ⟨h.entered q j hq, ?_⟩
    rintro rfl
    have twice := List.inj_on_of_nodup_map h.nodup_keys (h.entered q j hq) (h.entered p j keyed) rfl
    exact ne (congrArg DirEntry.profile twice)

end Listing

/-! ### One profile (R122, R124, R133, R140, R150) -/

/-- What the law asks of one profile by itself, at an age limit. -/
structure Profile.Legal (x : Profile) (ageLimit : Nat) : Prop where
  range : x.InRange ageLimit
  keyed : x.key.isSome ↔ (x.state = .bound ∨ x.state = .stale)
  behind : x.claim.isSome → x.holder.isSome
  free : x.state = .free → x.holder = none
  retiring : x.state = .retiring → x.holder.isSome

/-- The fields of a profile that the directory and the lanes' roles speak of. -/
def Profile.SameStanding (x y : Profile) : Prop := x.key = y.key ∧ x.holder = y.holder ∧ x.claim = y.claim

theorem Profile.SameStanding.rfl (x : Profile) : x.SameStanding x := ⟨Eq.refl _, Eq.refl _, Eq.refl _⟩

theorem Profile.free_legal (n : Nat) : Profile.free.Legal n := by
  constructor
  · constructor <;> simp [Profile.free]
  all_goals simp [Profile.free]

section Legal

variable {x : Profile} {n : Nat} (h : x.Legal n)
include h

theorem Profile.Legal.unclaimed (vacant : x.holder = none) : x.claim = none := by
  cases e : x.claim with
  | none => rfl
  | some l => have := h.behind (by rw [e]; rfl); rw [vacant] at this; cases this

theorem Profile.Legal.listed (held : x.holder.isSome) (kept : x.state ≠ .retiring) :
    x.state = .bound ∨ x.state = .stale := by
  cases e : x.state with
  | free => rw [h.free e] at held; cases held
  | bound => exact .inl rfl
  | stale => exact .inr rfl
  | retiring => exact absurd e kept

/-- Another holder and claim of a profile that is listed or has a holder again. -/
theorem Profile.Legal.withRoles {holder claim : Option (Fin 12)} (o : Bool) (claimed : claim.isSome → holder.isSome)
    (free : x.state = .free → holder = none) (retiring : x.state = .retiring → holder.isSome) :
    Profile.Legal { x with holder := holder, claim := claim, overridden := o } n where
  range := { h.range with }
  keyed := h.keyed
  behind := claimed
  free := free
  retiring := retiring

end Legal

/-! ### The roles toward one profile (R71, R150, R154) -/

/-- The role concerns no profile but `p`. -/
def Role.About (p : Fin 384) (r : Role) : Prop := ∀ q, q ≠ p → r ≠ .holder q ∧ r ≠ .claim q

/-- The role is neither a holding nor a claim. -/
def Role.Bare (r : Role) : Prop := ∀ q, r ≠ .holder q ∧ r ≠ .claim q

theorem Role.Bare.about {r : Role} (h : r.Bare) (p : Fin 384) : r.About p := fun q _ => h q

theorem Role.bare_none : Role.none.Bare := fun _ => ⟨nofun, nofun⟩
theorem Role.bare_guest (p : Fin 384) : (Role.guest p).Bare := fun _ => ⟨nofun, nofun⟩
theorem Role.bare_coldGuest (p : Option (Fin 384)) : (Role.coldGuest p).Bare := fun _ => ⟨nofun, nofun⟩

theorem Role.about_holder (p : Fin 384) : (Role.holder p).About p :=
  fun _ ne => ⟨fun e => ne (Role.holder.inj e).symm, nofun⟩

theorem Role.about_claim (p : Fin 384) : (Role.claim p).About p :=
  fun _ ne => ⟨nofun, fun e => ne (Role.claim.inj e).symm⟩

/-- The two roles are the same toward every profile. -/
def Role.SameStakes (r r' : Role) : Prop := ∀ p, (r = .holder p ↔ r' = .holder p) ∧ (r = .claim p ↔ r' = .claim p)

theorem Role.Bare.sameStakes {r r' : Role} (h : r.Bare) (h' : r'.Bare) : r.SameStakes r' :=
  fun p => ⟨iff_of_false (h p).1 (h' p).1, iff_of_false (h p).2 (h' p).2⟩

/-- The lane is in the same state with the same role. -/
def Lane.SameDuty (x y : Lane) : Prop := x.state = y.state ∧ x.role = y.role

/-- What the law asks of the roles toward one profile; `waived` leaves out that no claim waits behind a holder in CLOSING,
which does not hold between the entry to CLOSING and its judgement (R71). -/
structure State.Staffed (s : State) (waived : Prop) (p : Fin 384) : Prop where
  holder : ∀ l, (s.lane l).role = .holder p ↔ (s.prof p).holder = some l
  claim : ∀ l, (s.lane l).role = .claim p ↔ (s.prof p).claim = some l
  awaited : ¬ waived → ∀ h, (s.prof p).holder = some h → (s.prof p).claim.isSome → (s.lane h).state ≠ .closing
  armed : ∀ l, (s.lane l).role = .claim p → (s.lane l).state = .armed

/-- The five settings that NODE SET writes, as they stand (R13, R141). -/
def State.nodeSettings (s : State) : NodeSettings :=
  { markTimeout := s.timebase.markTimeout, holdoverLimit := s.timebase.holdoverLimit,
    stepTolerance := s.timebase.stepTolerance, ageingPeriod := s.sweep.ageingPeriod, ageLimit := s.sweep.ageLimit }

/-- The law at settings `v` that need not be legal, with ages that agree with a limit `n`, which differs from that of `v`
between a NODE SET and the profiles' alignment (R142). A claim may wait behind a holder in CLOSING of the profile
`waived`. -/
structure State.Stations (v : NodeSettings) (n : Nat) (waived : Option (Fin 384)) (s : State) : Prop where
  settings : s.nodeSettings = v
  limit : 1 ≤ n
  profile : ∀ p, (s.prof p).Legal n
  listing : Listing s.directory fun p => (s.prof p).key
  staffed : ∀ p, s.Staffed (waived = some p) p
  idle : ∀ l, (s.lane l).state = .free → (s.lane l).role = .none

/-- The law is that of the settings and of everything else. -/
theorem State.stationsLegal_iff {s : State} :
    s.StationsLegal ↔ s.SettingsLegal ∧ s.Stations s.nodeSettings s.sweep.ageLimit none := by
  constructor
  · intro h
    exact ⟨h.settings, rfl, h.settings.ageLimit.1,
      fun p => ⟨h.profiles p, h.keyed p, h.behind p, h.free p, h.retiring p⟩,
      ⟨h.ordered, h.size, h.named, h.entered⟩,
      fun p => ⟨fun l => h.holder l p, fun l => h.claim l p, fun _ => h.awaited p, fun l => h.armed l p⟩, h.idle⟩
  · rintro ⟨settings, h⟩
    exact
      { settings
        profiles := fun p => (h.profile p).range
        ordered := h.listing.ordered
        size := h.listing.size
        named := h.listing.named
        entered := h.listing.entered
        keyed := fun p => (h.profile p).keyed
        holder := fun l p => (h.staffed p).holder l
        claim := fun l p => (h.staffed p).claim l
        behind := fun p => (h.profile p).behind
        awaited := fun p => (h.staffed p).awaited nofun
        armed := fun l p => (h.staffed p).armed l
        free := fun p => (h.profile p).free
        retiring := fun p => (h.profile p).retiring
        idle := h.idle }

theorem State.SettingsLegal.congr {s t : State} (h : s.SettingsLegal) (e : t.nodeSettings = s.nodeSettings) :
    t.SettingsLegal := by
  simp only [State.nodeSettings, NodeSettings.mk.injEq] at e
  obtain ⟨markTimeout, holdoverLimit, stepTolerance, ageingPeriod, ageLimit⟩ := e
  constructor
  · rw [markTimeout]; exact h.markTimeout
  · rw [holdoverLimit]; exact h.holdoverLimit
  · rw [stepTolerance]; exact h.stepTolerance
  · rw [ageingPeriod]; exact h.ageingPeriod
  · rw [ageLimit]; exact h.ageLimit

/-- What keeps the law at the settings and the limit in force keeps the whole law. -/
theorem State.StationsLegal.of {s t : State} (h : s.StationsLegal)
    (kept : s.Stations s.nodeSettings s.sweep.ageLimit none → t.Stations s.nodeSettings s.sweep.ageLimit none) :
    t.StationsLegal := by
  obtain ⟨settings, stations⟩ := State.stationsLegal_iff.1 h
  have after := kept stations
  have limit : t.sweep.ageLimit = s.sweep.ageLimit := congrArg NodeSettings.ageLimit after.settings
  refine State.stationsLegal_iff.2 ⟨settings.congr after.settings, ?_⟩
  rw [after.settings, limit]
  exact after

end Sys2Proof.Machine
end

section
/-! What each operation on a profile keeps of the law of one profile (chapters 7 and 8). -/

namespace Sys2Proof.Machine

theorem clampInt_mem {lo hi : Int} (le : lo ≤ hi) (x : Int) : lo ≤ clampInt lo hi x ∧ clampInt lo hi x ≤ hi := by
  unfold clampInt; omega

theorem clampNat_mem {lo hi : Nat} (le : lo ≤ hi) (x : Nat) : lo ≤ clampNat lo hi x ∧ clampNat lo hi x ≤ hi := by
  unfold clampNat; omega

/-- What the release of a holder does to the profile: the claimant takes its place, or the RETIRING profile is freed. -/
def Profile.released (x : Profile) : Profile :=
  if x.state = .retiring then Profile.free else { x with holder := x.claim, claim := none, overridden := false }

/-- A profile as the alignment to an age limit leaves it (R142). -/
def Profile.aligned (x : Profile) (limit : Nat) : Profile :=
  match x.state with
  | .bound => if limit ≤ x.age then { x with age := limit, state := .stale } else x
  | .stale => { x with age := limit }
  | .free | .retiring => x

/-! ### Fields that stay -/

section Fields

variable (x : Profile)

theorem Profile.failed_standing (mer : Nat) : (x.failed mer).SameStanding x := by
  unfold Profile.failed
  dsimp only
  split <;> exact ⟨rfl, rfl, rfl⟩

theorem Profile.failed_state (mer : Nat) : (x.failed mer).state = x.state := by
  unfold Profile.failed
  dsimp only
  split <;> rfl

theorem Profile.unbound_fields : x.unbound.key = none ∧ x.unbound.holder = x.holder ∧ x.unbound.claim = x.claim := by
  unfold Profile.unbound
  split
  · rename_i unused; exact ⟨rfl, unused.1.symm, unused.2.symm⟩
  · exact ⟨rfl, rfl, rfl⟩

theorem Profile.aligned_standing (limit : Nat) : (x.aligned limit).SameStanding x := by
  unfold Profile.aligned
  split
  · split <;> exact ⟨rfl, rfl, rfl⟩
  all_goals exact ⟨rfl, rfl, rfl⟩

theorem Profile.aligned_aligned (limit : Nat) : (x.aligned limit).aligned limit = x.aligned limit := by
  cases e : x.state with
  | bound => by_cases aged : limit ≤ x.age <;> simp [Profile.aligned, e, aged]
  | _ => simp [Profile.aligned, e]

theorem Profile.atNodeReset_roles : x.atNodeReset.holder = none ∧ x.atNodeReset.claim = none := by
  unfold Profile.atNodeReset
  split <;> exact ⟨rfl, rfl⟩

end Fields

/-! ### The law of one profile -/

section Legal

variable {x y : Profile} {n n' : Nat} (h : x.Legal n)
include h

/-- Only numbers change. -/
theorem Profile.Legal.renumber (state : y.state = x.state) (same : y.SameStanding x) (range : y.InRange n') :
    y.Legal n' := by
  obtain ⟨key, holder, claim⟩ := same
  refine ⟨range, ?_, ?_, ?_, ?_⟩
  · rw [key, state]; exact h.keyed
  · rw [holder, claim]; exact h.behind
  · rw [state, holder]; exact h.free
  · rw [state, holder]; exact h.retiring

/-- Numbers change, and BOUND may turn STALE or STALE turn BOUND. -/
theorem Profile.Legal.relist (was : x.state = .bound ∨ x.state = .stale) (is : y.state = .bound ∨ y.state = .stale)
    (same : y.SameStanding x) (range : y.InRange n') : y.Legal n' := by
  obtain ⟨key, holder, claim⟩ := same
  refine ⟨range, ?_, ?_, fun free => ?_, fun retiring => ?_⟩
  · rw [key]; exact iff_of_true (h.keyed.2 was) is
  · rw [holder, claim]; exact h.behind
  · rw [free] at is; simp at is
  · rw [retiring] at is; simp at is

theorem Profile.Legal.unkeyed (unlisted : ¬ (x.state = .bound ∨ x.state = .stale)) : x.key = none :=
  Option.not_isSome_iff_eq_none.1 fun keyed => unlisted (h.keyed.1 keyed)

theorem Profile.Legal.released (held : x.holder.isSome) : x.released.Legal n := by
  unfold Profile.released
  split
  · exact Profile.free_legal n
  · rename_i kept
    refine h.withRoles false nofun (fun free => ?_) fun retiring => absurd retiring kept
    rw [h.free free] at held
    cases held

theorem Profile.Legal.released_key : x.released.key = x.key := by
  unfold Profile.released
  split
  · rename_i retiring; exact (h.unkeyed (by simp [retiring])).symm
  · rfl

/-- A profile that passes is BOUND with age and fail count 0 (R161). -/
theorem Profile.Legal.passed (limit : 1 ≤ n) (listed : x.state = .bound ∨ x.state = .stale) (vec : CoefVector)
    (offset bias shift : Int) (mer : Nat) : (x.passed vec offset (newBias bias shift) mer).Legal n :=
  h.relist listed (.inl rfl) ⟨rfl, rfl, rfl⟩
    { offset := clampInt_mem (by decide) _
      bias := clampInt_mem (by decide) _
      revertLimit := h.range.revertLimit
      failCount := h.range.revertLimit.1
      bound := fun _ => limit
      stale := nofun }

theorem Profile.Legal.revert : x.revert.Legal n :=
  h.renumber rfl ⟨rfl, rfl, rfl⟩ { h.range with failCount := h.range.revertLimit.1 }

/-- A failure that reaches the revert limit sets the fail count back to 0 (R162). -/
theorem Profile.Legal.failed (mer : Nat) : (x.failed mer).Legal n := by
  refine h.renumber (x.failed_state mer) (x.failed_standing mer) ?_
  unfold Profile.failed
  dsimp only
  split
  · exact { h.range with failCount := h.range.revertLimit.1 }
  · rename_i below
    exact { h.range with failCount := not_le.1 below }

/-- A FREE profile is bound with age and fail count 0 (R131). -/
theorem Profile.Legal.bound (limit : 1 ≤ n) (free : x.state = .free) (k : Key) (r : BindRequest) :
    (x.bound k r).Legal n where
  range :=
    { offset := by simp [Profile.bound]
      bias := by simp [Profile.bound]
      revertLimit := clampNat_mem (by decide) _
      failCount := (clampNat_mem (lo := 1) (hi := 7) (by decide) _).1
      bound := fun _ => limit
      stale := nofun }
  keyed := iff_of_true rfl (.inl rfl)
  behind := h.behind
  free := fun _ => h.free free
  retiring := nofun

/-- A profile whose entry is removed is FREE, or RETIRING while it has a holder (R132). -/
theorem Profile.Legal.unbound : x.unbound.Legal n := by
  unfold Profile.unbound
  split
  · exact Profile.free_legal n
  · rename_i used
    refine ⟨{ h.range with bound := nofun, stale := nofun }, iff_of_false nofun nofun, h.behind, nofun, fun _ => ?_⟩
    exact Option.isSome_iff_ne_none.2 fun vacant => used ⟨vacant, h.unclaimed vacant⟩

theorem Profile.Legal.markOverridden : x.markOverridden.Legal n := h.renumber rfl ⟨rfl, rfl, rfl⟩ { h.range with }

theorem Profile.Legal.cleared : x.cleared.Legal n :=
  h.renumber rfl ⟨rfl, rfl, rfl⟩ { h.range with
    offset := by simp [Profile.cleared]
    bias := by simp [Profile.cleared]
    failCount := h.range.revertLimit.1 }

/-- The alignment forgets the limit that the ages agreed with before. -/
theorem Profile.Legal.aligned (limit : Nat) : (x.aligned limit).Legal limit := by
  unfold Profile.aligned
  split
  · rename_i bound
    split
    · exact h.relist (.inl bound) (.inr rfl) ⟨rfl, rfl, rfl⟩ { h.range with bound := nofun, stale := fun _ => rfl }
    · rename_i younger
      exact h.renumber rfl ⟨rfl, rfl, rfl⟩
        { h.range with bound := fun _ => not_le.1 younger, stale := fun e => absurd (bound.symm.trans e) nofun }
  · rename_i stale
    exact h.renumber rfl ⟨rfl, rfl, rfl⟩
      { h.range with bound := fun e => absurd (stale.symm.trans e) nofun, stale := fun _ => rfl }
  all_goals
    rename_i other
    exact h.renumber rfl ⟨rfl, rfl, rfl⟩ { h.range with
      bound := fun e => absurd (other.symm.trans e) nofun
      stale := fun e => absurd (other.symm.trans e) nofun }

theorem Profile.Legal.putCurrent (tap : Fin 24) (c : Coef) : (x.putCurrent tap c).Legal n :=
  h.renumber rfl ⟨rfl, rfl, rfl⟩ { h.range with }

theorem Profile.Legal.putPrevious (tap : Fin 24) (c : Coef) : (x.putPrevious tap c).Legal n :=
  h.renumber rfl ⟨rfl, rfl, rfl⟩ { h.range with }

/-- A META item is clamped, and a fail count at or above the new revert limit lowered (R125). -/
theorem Profile.Legal.putMeta (c b : Int) (rl : Nat) : (x.putMeta c b rl).Legal n := by
  have positive : 1 ≤ clampNat 1 7 rl := (clampNat_mem (by decide) rl).1
  refine h.renumber rfl ⟨rfl, rfl, rfl⟩ { h.range with
    offset := clampInt_mem (by decide) _
    bias := clampInt_mem (by decide) _
    revertLimit := clampNat_mem (by decide) _
    failCount := ?_ }
  simp only [Profile.putMeta]
  split <;> omega

theorem Profile.Legal.atNodeReset : x.atNodeReset.Legal n := by
  unfold Profile.atNodeReset
  split
  · exact Profile.free_legal n
  · rename_i kept
    exact h.withRoles false nofun (fun _ => rfl) fun retiring => absurd retiring kept

theorem Profile.Legal.atNodeReset_key : x.atNodeReset.key = x.key := by
  unfold Profile.atNodeReset
  split
  · rename_i retiring; exact (h.unkeyed (by simp [retiring])).symm
  · rfl

end Legal

end Sys2Proof.Machine
end

section
/-! How the law of the stations passes from a state to the next: changes that leave keys and roles alone, changes that
concern one profile, the release of a role, and the three ways in which a lane comes by one. -/

namespace Sys2Proof.Machine

variable {s t : State} {v v' : NodeSettings} {n n' : Nat} {w w' : Option (Fin 384)}

/-! ### Changes that leave keys and roles alone -/

theorem State.Staffed.congr {p : Fin 384} {q q' : Prop} (h : s.Staffed q p) (waived : q → q')
    (roles : (t.prof p).holder = (s.prof p).holder ∧ (t.prof p).claim = (s.prof p).claim)
    (lane : ∀ l, (t.lane l).SameDuty (s.lane l)) : t.Staffed q' p where
  holder l := by rw [(lane l).2, roles.1]; exact h.holder l
  claim l := by rw [(lane l).2, roles.2]; exact h.claim l
  awaited nw k := by
    rw [(lane k).1, roles.1, roles.2]
    exact h.awaited (fun hq => nw (waived hq)) k
  armed l := by rw [(lane l).1, (lane l).2]; exact h.armed l

/-- Profiles that keep their standing, and lanes their duty: the numbers and the settings are free to change. -/
theorem State.Stations.transfer (h : s.Stations v n w) (settings : t.nodeSettings = v') (limit : 1 ≤ n')
    (directory : t.directory = s.directory) (legal : ∀ p, (t.prof p).Legal n')
    (prof : ∀ p, (t.prof p).SameStanding (s.prof p)) (lane : ∀ l, (t.lane l).SameDuty (s.lane l)) :
    t.Stations v' n' w where
  settings := settings
  limit := limit
  profile := legal
  listing := by
    have keys : (fun p => (t.prof p).key) = fun p => (s.prof p).key := funext fun p => (prof p).1
    rw [directory, keys]
    exact h.listing
  staffed p := (h.staffed p).congr id (prof p).2 lane
  idle l := by rw [(lane l).1, (lane l).2]; exact h.idle l

/-- What the law does not speak of may change. -/
theorem State.Stations.congr (h : s.Stations v n w) (settings : t.nodeSettings = s.nodeSettings)
    (profiles : t.profiles = s.profiles) (directory : t.directory = s.directory)
    (lane : ∀ l, (t.lane l).SameDuty (s.lane l)) : t.Stations v n w := by
  have prof : ∀ p, t.prof p = s.prof p := fun p => by simp only [State.prof, profiles]
  exact h.transfer (settings.trans h.settings) h.limit directory (fun p => by rw [prof]; exact h.profile p)
    (fun p => by rw [prof]; exact Profile.SameStanding.rfl _) lane

section Aside

variable (h : s.Stations v n w)
include h

theorem State.Stations.setChan (ch : Fin 6) (c : Channel) : (s.setChan ch c).Stations v n w :=
  h.congr rfl rfl rfl fun _ => ⟨rfl, rfl⟩

theorem State.Stations.setQueue (ch : Fin 6) (q : List QueuedGrant) : (s.setQueue ch q).Stations v n w := h.setChan _ _

theorem State.Stations.setOutput (o : OutputQueue) : (s.setOutput o).Stations v n w :=
  h.congr rfl rfl rfl fun _ => ⟨rfl, rfl⟩

theorem State.Stations.emitRecord (r : BurstRecord) : (s.emitRecord r).Stations v n w := h.setOutput _

theorem State.Stations.respond (m : Message) (st : Status) (fs : List Byte) : (s.respond m st fs).Stations v n w :=
  h.setOutput _

theorem State.Stations.notify (e : NoticeEvent) : (s.notify e).Stations v n w := h.setOutput _

theorem State.Stations.setLink (k : NodeLink) : (s.setLink k).Stations v n w := h.congr rfl rfl rfl fun _ => ⟨rfl, rfl⟩

/-- The timebase's own values may change, its settings not. -/
theorem State.Stations.setTimebase {b : Timebase} (settings : (s.setTimebase b).nodeSettings = s.nodeSettings) :
    (s.setTimebase b).Stations v n w := h.congr settings rfl rfl fun _ => ⟨rfl, rfl⟩

theorem State.Stations.setSync (x : SyncState) : (s.setSync x).Stations v n w := h.setTimebase rfl

theorem State.Stations.setLastMark (t : Tick) : (s.setLastMark t).Stations v n w := h.setTimebase rfl

theorem State.Stations.setSweep {x : Sweep} (settings : (s.setSweep x).nodeSettings = s.nodeSettings) :
    (s.setSweep x).Stations v n w := h.congr settings rfl rfl fun _ => ⟨rfl, rfl⟩

/-- The next visit's tick is formed anew (R138, R194). -/
theorem State.Stations.setNextVisit (t : Tick) :
    (s.setSweep { s.sweep with nextVisit := t, visitReached := false }).Stations v n w := h.setSweep rfl

theorem State.Stations.setCounter (t : Tick) : (s.setCounter t).Stations v n w :=
  h.congr rfl rfl rfl fun l => by rw [State.setCounter_lane]; exact ⟨Lane.noteTicks_state _ _, Lane.noteTicks_role _ _⟩

theorem State.Stations.stepCounter (t : Tick) : (s.stepCounter t).Stations v n w :=
  (h.setCounter t).congr rfl rfl rfl fun _ => ⟨rfl, rfl⟩

/-- A lane goes on in its state with its role. -/
theorem State.Stations.setLane_same {l : Fin 12} {x : Lane} (same : x.SameDuty (s.lane l)) :
    (s.setLane l x).Stations v n w := h.congr rfl rfl rfl fun k => by
  rw [State.setLane_lane]
  split
  · rename_i e; subst e; exact same
  · exact ⟨rfl, rfl⟩

/-- A profile's numbers change. -/
theorem State.Stations.setProf {p : Fin 384} {x : Profile} (legal : x.Legal n) (same : x.SameStanding (s.prof p)) :
    (s.setProf p x).Stations v n w := by
  refine h.transfer h.settings h.limit rfl (fun q => ?_) (fun q => ?_) fun _ => ⟨rfl, rfl⟩
  · rw [State.setProf_prof]
    split
    · exact legal
    · exact h.profile q
  · rw [State.setProf_prof]
    split
    · rename_i e; subst e; exact same
    · exact Profile.SameStanding.rfl _

/-- A profile's key changes, and with it the directory. -/
theorem State.Stations.relist {p : Fin 384} {x : Profile} {d : List DirEntry} (legal : x.Legal n)
    (roles : x.holder = (s.prof p).holder ∧ x.claim = (s.prof p).claim)
    (listing : Listing d fun q => if p = q then x.key else (s.prof q).key) :
    ((s.setProf p x).setDirectory d).Stations v n w where
  settings := h.settings
  limit := h.limit
  profile q := by
    rw [State.setDirectory_prof, State.setProf_prof]
    split
    · exact legal
    · exact h.profile q
  listing := by
    have keys : (fun q => (((s.setProf p x).setDirectory d).prof q).key) = fun q =>
        if p = q then x.key else (s.prof q).key := funext fun q => by rw [State.setDirectory_prof, State.setProf_prof, apply_ite Profile.key]
    rw [keys]
    exact listing
  staffed q := (h.staffed q).congr id (by
    rw [State.setDirectory_prof, State.setProf_prof]
    split
    · rename_i e; subst e; exact roles
    · exact ⟨rfl, rfl⟩) fun _ => ⟨rfl, rfl⟩
  idle := h.idle

/-- A lane changes its state, not its role toward a profile: a claimant stays in ARMED, and a holder with a claim waiting
enters CLOSING only where that is waived. -/
theorem State.Stations.setLane {l : Fin 12} {x : Lane} (stakes : x.role.SameStakes (s.lane l).role)
    (idle : x.state = .free → x.role = .none) (armed : ∀ p, x.role = .claim p → x.state = .armed)
    (closing : x.state = .closing → ∀ p, x.role = .holder p → (s.prof p).claim.isSome → w' = some p)
    (waived : ∀ p, w = some p → w' = some p) : (s.setLane l x).Stations v n w' where
  settings := h.settings
  limit := h.limit
  profile := h.profile
  listing := h.listing
  staffed p := by
    have old := h.staffed p
    have roles : ∀ k, ((s.setLane l x).lane k).role.SameStakes (s.lane k).role := fun k => by
      rw [State.setLane_lane]
      split
      · rename_i e; subst e; exact stakes
      · exact fun _ => ⟨Iff.rfl, Iff.rfl⟩
    refine ⟨fun k => (roles k p).1.trans (old.holder k), fun k => (roles k p).2.trans (old.claim k),
      fun nw k held claimed => ?_, fun k hk => ?_⟩
    · rw [State.setLane_lane]
      split
      · rename_i e
        subst e
        exact fun hc => nw (closing hc p ((stakes p).1.2 ((old.holder l).2 held)) claimed)
      · exact old.awaited (fun hw => nw (waived p hw)) k held claimed
    · rw [State.setLane_lane] at hk ⊢
      split at hk
      · rename_i e; rw [if_pos e]; exact armed p hk
      · rename_i e; rw [if_neg e]; exact old.armed k hk
  idle k := by
    rw [State.setLane_lane]
    split
    · exact idle
    · exact h.idle k

/-- A lane with no role toward a profile goes on in any state with another such role, or none. -/
theorem State.Stations.setLane_bare {l : Fin 12} {x : Lane} (was : (s.lane l).role.Bare) (bare : x.role.Bare)
    (idle : x.state = .free → x.role = .none) : (s.setLane l x).Stations v n w :=
  h.setLane (bare.sameStakes was) idle (fun p e => absurd e (bare p).2) (fun _ p e => absurd e (bare p).1) fun _ => id

/-- A lane past ARMED claims no profile. -/
theorem State.Stations.unclaiming {l : Fin 12} (past : (s.lane l).state ≠ .armed) (p : Fin 384) :
    (s.lane l).role ≠ .claim p := fun claims => past ((h.staffed p).armed l claims)

/-- A lane that claims no profile goes on to a state in which it receives, with its role. -/
theorem State.Stations.setLane_receiving {l : Fin 12} {x : Lane} (role : x.role = (s.lane l).role)
    (receiving : x.state.receiving = true) (unclaiming : ∀ p, (s.lane l).role ≠ .claim p) :
    (s.setLane l x).Stations v n w :=
  h.setLane (fun _ => by rw [role]; exact ⟨Iff.rfl, Iff.rfl⟩) (fun e => by rw [e] at receiving; cases receiving)
    (fun p e => absurd (role.symm.trans e) (unclaiming p)) (fun e => by rw [e] at receiving; cases receiving) fun _ => id

end Aside

/-! ### Changes that concern one profile -/

/-- Between the two states no other profile changes, and no lane with a role toward another. -/
structure Concerns (p : Fin 384) (s t : State) : Prop where
  settings : t.nodeSettings = s.nodeSettings
  directory : t.directory = s.directory
  others : ∀ q, q ≠ p → t.prof q = s.prof q
  lanes : ∀ l, (t.lane l).SameDuty (s.lane l) ∨
    ((s.lane l).role.About p ∧ (t.lane l).role.About p ∧ ((t.lane l).state = .free → (t.lane l).role = .none))

/-- The law is then to be shown of that profile alone. -/
theorem State.Stations.concerns {p : Fin 384} (h : s.Stations v n w) (hw : ∀ q, w = some q → q = p) (c : Concerns p s t)
    (legal : (t.prof p).Legal n) (key : (t.prof p).key = (s.prof p).key) (staffed : t.Staffed (w' = some p) p) :
    t.Stations v n w' where
  settings := c.settings.trans h.settings
  limit := h.limit
  profile q := by
    by_cases e : q = p
    · subst e; exact legal
    · rw [c.others q e]; exact h.profile q
  listing := by
    have keys : (fun q => (t.prof q).key) = fun q => (s.prof q).key := funext fun q => by
      by_cases e : q = p
      · subst e; exact key
      · rw [c.others q e]
    rw [c.directory, keys]
    exact h.listing
  staffed q := by
    by_cases e : q = p
    · subst e; exact staffed
    have old := h.staffed q
    have toward : ∀ l, ((t.lane l).role = .holder q ↔ (s.lane l).role = .holder q) ∧
        ((t.lane l).role = .claim q ↔ (s.lane l).role = .claim q) := fun l => by
      rcases c.lanes l with same | ⟨was, is, -⟩
      · rw [same.2]; exact ⟨Iff.rfl, Iff.rfl⟩
      · exact ⟨iff_of_false (is q e).1 (was q e).1, iff_of_false (is q e).2 (was q e).2⟩
    have state : ∀ l, (s.lane l).role = .holder q ∨ (s.lane l).role = .claim q → (t.lane l).state = (s.lane l).state :=
      fun l hl => by
        rcases c.lanes l with same | ⟨was, -, -⟩
        · exact same.1
        · exact absurd hl (not_or.2 (was q e))
    refine ⟨fun l => ?_, fun l => ?_, fun _ l => ?_, fun l hl => ?_⟩
    · rw [(toward l).1, c.others q e]; exact old.holder l
    · rw [(toward l).2, c.others q e]; exact old.claim l
    · rw [c.others q e]
      intro held claimed
      rw [state l (.inl ((old.holder l).2 held))]
      exact old.awaited (fun hq => e (hw q hq)) l held claimed
    · have claims := (toward l).2.1 hl
      rw [state l (.inr claims)]
      exact old.armed l claims
  idle l hl := by
    rcases c.lanes l with same | ⟨-, -, idle⟩
    · rw [same.2]; exact h.idle l (same.1 ▸ hl)
    · exact idle hl

theorem Frame.nodeSettings (f : Frame s t) : t.nodeSettings = s.nodeSettings := by
  simp only [State.nodeSettings, f.timebase, f.sweep]

/-- No lane has a role toward a profile that names none. -/
theorem State.Staffed.of_vacant {p : Fin 384} {q : Prop} (none : (t.prof p).holder = none ∧ (t.prof p).claim = none)
    (unserved : ∀ l, (t.lane l).role ≠ .holder p ∧ (t.lane l).role ≠ .claim p) : t.Staffed q p where
  holder l := iff_of_false (unserved l).1 (by rw [none.1]; nofun)
  claim l := iff_of_false (unserved l).2 (by rw [none.2]; nofun)
  awaited _ k held := by rw [none.1] at held; cases held
  armed l hl := absurd hl (unserved l).2

/-- One lane holds a profile, which it names, and none claims it. -/
theorem State.Staffed.of_held {p : Fin 384} {q : Prop} {l : Fin 12}
    (named : (t.prof p).holder = some l ∧ (t.prof p).claim = none)
    (holds : ∀ k, (t.lane k).role = .holder p ↔ l = k)
    (unclaimed : ∀ k, (t.lane k).role ≠ .claim p) : t.Staffed q p where
  holder k := by rw [holds, named.1, Option.some.injEq]
  claim k := iff_of_false (unclaimed k) (by rw [named.2]; nofun)
  awaited _ k _ claimed := by rw [named.2] at claimed; cases claimed
  armed k hk := absurd hk (unclaimed k)

/-- One lane holds a profile and one in ARMED claims it, and the profile names both; the holder is not in CLOSING. -/
theorem State.Staffed.of_claimed {p : Fin 384} {q : Prop} {k l : Fin 12}
    (named : (t.prof p).holder = some k ∧ (t.prof p).claim = some l)
    (holds : ∀ j, (t.lane j).role = .holder p ↔ k = j) (claims : ∀ j, (t.lane j).role = .claim p ↔ l = j)
    (receiving : (t.lane k).state ≠ .closing) (armed : (t.lane l).state = .armed) : t.Staffed q p where
  holder j := by rw [holds, named.1, Option.some.injEq]
  claim j := by rw [claims, named.2, Option.some.injEq]
  awaited _ j held _ := by
    obtain rfl : k = j := Option.some.inj (named.1.symm.trans held)
    exact receiving
  armed j hj := by
    obtain rfl := (claims j).1 hj
    exact armed

/-! ### The release of a role (R155 to R159, R163) -/

/-- What it makes of the claimant. -/
def Profile.roleOfClaimant (x : Profile) (p : Fin 384) : Role :=
  if x.state = .retiring then .coldGuest (some p) else .holder p

@[simp] theorem State.becomeHolder_prof (s : State) (l : Fin 12) (p q : Fin 384) :
    (s.becomeHolder l p).prof q = if p = q then { s.prof p with holder := some l } else s.prof q := by
  simp [State.becomeHolder]

@[simp] theorem State.becomeHolder_role (s : State) (l k : Fin 12) (p : Fin 384) :
    ((s.becomeHolder l p).lane k).role = if l = k then .holder p else (s.lane k).role := by
  unfold State.becomeHolder
  rw [State.setProf_lane, State.setLane_lane]
  split <;> rfl

theorem State.retireIfReleased_prof (s : State) (p q : Fin 384) :
    (s.retireIfReleased p).prof q =
      if p = q ∧ (s.prof p).state = .retiring ∧ (s.prof p).holder = none ∧ (s.prof p).claim = none then Profile.free
      else s.prof q := by
  unfold State.retireIfReleased
  split
  · rename_i h; simp [h]
  · rename_i h; simp [h]

theorem State.retireIfReleased_lane (s : State) (p : Fin 384) (l : Fin 12) :
    (s.retireIfReleased p).lane l = s.lane l := by
  unfold State.retireIfReleased; split <;> rfl

theorem State.resolveClaim_prof (s : State) (p q : Fin 384) :
    (s.resolveClaim p).prof q =
      if p = q then { s.prof p with
        claim := none
        holder := if (s.prof p).state = .retiring then (s.prof p).holder else (s.prof p).claim.or (s.prof p).holder }
      else s.prof q := by
  unfold State.resolveClaim
  split
  · rename_i c
    have unclaimed : { s.prof p with claim := none } = s.prof p := by rw [← c]
    rcases eq_or_ne p q with rfl | e
    · simp [c, unclaimed]
    · simp [e]
  · rename_i c
    rcases eq_or_ne p q with rfl | e
    · by_cases r : (s.prof p).state = .retiring <;> simp [r, c]
    · by_cases r : (s.prof p).state = .retiring <;> simp [r, e]

theorem State.resolveClaim_role (s : State) (p : Fin 384) (k : Fin 12) :
    ((s.resolveClaim p).lane k).role =
      if (s.prof p).claim = some k then (s.prof p).roleOfClaimant p else (s.lane k).role := by
  unfold State.resolveClaim
  split
  · rename_i c; simp [c]
  · rename_i m c
    by_cases r : (s.prof p).state = .retiring <;> by_cases e : m = k <;>
      simp [Profile.roleOfClaimant, Lane.asColdGuest, r, c, e]

theorem State.releaseHolder_prof (s : State) (p q : Fin 384) :
    (s.releaseHolder p).prof q = if p = q then (s.prof p).released else s.prof q := by
  unfold State.releaseHolder Profile.released
  rw [State.retireIfReleased_prof, State.resolveClaim_prof, State.resolveClaim_prof]
  rcases eq_or_ne p q with rfl | e
  · by_cases r : (s.prof p).state = .retiring <;> simp [r]
  · simp [e]

theorem State.releaseHolder_role (s : State) (p : Fin 384) (k : Fin 12) :
    ((s.releaseHolder p).lane k).role =
      if (s.prof p).claim = some k then (s.prof p).roleOfClaimant p else (s.lane k).role := by
  unfold State.releaseHolder
  rw [State.retireIfReleased_lane, State.resolveClaim_role]
  simp [Profile.roleOfClaimant]

theorem State.dropClaim_prof (s : State) (p q : Fin 384) :
    (s.dropClaim p).prof q =
      if p = q then
        if (s.prof p).state = .retiring ∧ (s.prof p).holder = none then Profile.free else { s.prof p with claim := none }
      else s.prof q := by
  unfold State.dropClaim
  rw [State.retireIfReleased_prof]
  by_cases e : p = q <;> simp [e]

theorem State.dropClaim_lane (s : State) (p : Fin 384) (l : Fin 12) : (s.dropClaim p).lane l = s.lane l := by
  unfold State.dropClaim
  rw [State.retireIfReleased_lane, State.setProf_lane]

end Sys2Proof.Machine
end

section
/-! The release of a role and the ways in which a lane comes by one keep the law of the stations; so do the judgement and
the checkout, which are made of them. -/

namespace Sys2Proof.Machine

variable {s t : State} {v : NodeSettings} {n : Nat} {w : Option (Fin 384)}

/-! ### The release of a role -/

theorem Profile.roleOfClaimant_about (x : Profile) (p : Fin 384) : (x.roleOfClaimant p).About p := by
  unfold Profile.roleOfClaimant
  split
  · exact (Role.bare_coldGuest _).about p
  · exact Role.about_holder p

/-- After the release no lane has a role toward the profile, or the claimant alone holds it. -/
theorem State.Staffed.released {l : Fin 12} {p : Fin 384} {y : Lane} {q q' : Prop} (old : s.Staffed q p)
    (hl : (s.lane l).role = .holder p) (bare : y.role.Bare) (prof : (t.prof p) = (s.prof p).released)
    (role : ∀ k, (t.lane k).role =
      if (s.prof p).claim = some k then (s.prof p).roleOfClaimant p else if l = k then y.role else (s.lane k).role) :
    t.Staffed q' p := by
  have unserved : ∀ k, (s.prof p).claim ≠ some k → (t.lane k).role ≠ .holder p ∧ (t.lane k).role ≠ .claim p := by
    intro k unclaimed
    rw [role, if_neg unclaimed]
    split
    · exact bare p
    · rename_i other
      refine ⟨fun e => other ?_, fun e => unclaimed ((old.claim k).1 e)⟩
      exact Option.some.inj (((old.holder l).1 hl).symm.trans ((old.holder k).1 e))
  by_cases r : (s.prof p).state = .retiring
  · refine .of_vacant (by rw [prof, Profile.released, if_pos r]; exact ⟨rfl, rfl⟩) fun k => ?_
    by_cases claims : (s.prof p).claim = some k
    · rw [role, if_pos claims, Profile.roleOfClaimant, if_pos r]
      exact Role.bare_coldGuest _ p
    · exact unserved k claims
  · rw [Profile.released, if_neg r] at prof
    cases c : (s.prof p).claim with
    | none => exact .of_vacant (by rw [prof]; exact ⟨c, rfl⟩) fun k => unserved k (by rw [c]; nofun)
    | some m =>
      have promoted : (t.lane m).role = .holder p := by
        rw [role, if_pos c, Profile.roleOfClaimant, if_neg r]
      have others : ∀ k, m ≠ k → (s.prof p).claim ≠ some k := fun k ne e => ne (Option.some.inj (c.symm.trans e))
      refine .of_held (l := m) (by rw [prof]; exact ⟨c, rfl⟩) (fun k => ⟨fun e => ?_, ?_⟩) fun k => ?_
      · by_contra ne
        exact (unserved k (others k ne)).1 e
      · rintro rfl; exact promoted
      · rcases eq_or_ne m k with rfl | ne
        · rw [promoted]; nofun
        · exact (unserved k (others k ne)).2

/-- A holder is released, and its lane goes on as `y` with no role toward a profile (R133, R157, R163). -/
theorem State.Stations.releaseHolder (h : s.Stations v n w) {l : Fin 12} {p : Fin 384} {y : Lane}
    (hl : (s.lane l).role = .holder p) (hw : ∀ q, w = some q → q = p) (bare : y.role.Bare)
    (idle : y.state = .free → y.role = .none) : ((s.setLane l y).releaseHolder p).Stations v n none := by
  have old := h.staffed p
  have held : (s.prof p).holder.isSome := by rw [(old.holder l).1 hl]; rfl
  have work := (s.setLane l y).releaseHolder_work p
  have prof : ∀ q, ((s.setLane l y).releaseHolder p).prof q = if p = q then (s.prof p).released else s.prof q :=
    (s.setLane l y).releaseHolder_prof p
  have role : ∀ k, (((s.setLane l y).releaseHolder p).lane k).role =
      if (s.prof p).claim = some k then (s.prof p).roleOfClaimant p else if l = k then y.role else (s.lane k).role :=
    fun k => by
      rw [State.releaseHolder_role, State.setLane_lane, State.setLane_prof, apply_ite Lane.role]
  have state : ∀ k, (((s.setLane l y).releaseHolder p).lane k).state = if l = k then y.state else (s.lane k).state :=
    fun k => by rw [(work.judging.service k).1, State.setLane_lane, apply_ite Lane.state]
  generalize (s.setLane l y).releaseHolder p = t at work prof role state ⊢
  have own : t.prof p = (s.prof p).released := (prof p).trans (if_pos rfl)
  refine h.concerns hw
    ⟨work.frame.nodeSettings, work.frame.directory, fun q ne => (prof q).trans (if_neg ne.symm), fun k => ?_⟩
    (own ▸ (h.profile p).released held) (own ▸ (h.profile p).released_key) (old.released hl bare own role)
  by_cases claims : (s.prof p).claim = some k
  · have claimant := (old.claim k).2 claims
    have other : l ≠ k := by rintro rfl; rw [hl] at claimant; cases claimant
    rw [role, state, if_pos claims, if_neg other, claimant, old.armed k claimant]
    exact .inr ⟨Role.about_claim p, Profile.roleOfClaimant_about _ p, nofun⟩
  · by_cases its : l = k
    · subst its
      rw [role, state, if_neg claims, if_pos rfl, if_pos rfl, hl]
      exact .inr ⟨Role.about_holder p, bare.about p, idle⟩
    · exact .inl ⟨by rw [state, if_neg its], by rw [role, if_neg claims, if_neg its]⟩

/-- A claim is dropped, and its lane goes on as `y` with no role toward a profile (R156, R158). -/
theorem State.Stations.dropClaim (h : s.Stations v n none) {l : Fin 12} {p : Fin 384} {y : Lane}
    (hl : (s.lane l).role = .claim p) (bare : y.role.Bare) (idle : y.state = .free → y.role = .none) :
    ((s.setLane l y).dropClaim p).Stations v n none := by
  have old := h.staffed p
  have claims := (old.claim l).1 hl
  have held : (s.prof p).holder ≠ none := by
    have := (h.profile p).behind (by rw [claims]; rfl)
    rintro e; rw [e] at this; cases this
  have work := (s.setLane l y).dropClaim_work p
  have prof : ∀ q, ((s.setLane l y).dropClaim p).prof q =
      if p = q then { s.prof p with claim := none } else s.prof q := fun q => by
    rw [State.dropClaim_prof, State.setLane_prof, State.setLane_prof, if_neg (not_and_of_not_right _ held)]
  have lane : ∀ k, ((s.setLane l y).dropClaim p).lane k = if l = k then y else s.lane k := fun k => by
    rw [State.dropClaim_lane, State.setLane_lane]
  generalize (s.setLane l y).dropClaim p = t at work prof lane ⊢
  have own : t.prof p = { s.prof p with claim := none } := (prof p).trans (if_pos rfl)
  refine h.concerns nofun
    ⟨work.frame.nodeSettings, work.frame.directory, fun q ne => (prof q).trans (if_neg ne.symm), fun k => ?_⟩
    (own ▸ (h.profile p).withRoles _ nofun (h.profile p).free (h.profile p).retiring) (by rw [own]) ?_
  · rw [lane]
    split
    · rename_i e; subst e; rw [hl]; exact .inr ⟨Role.about_claim p, bare.about p, idle⟩
    · exact .inl ⟨rfl, rfl⟩
  · obtain ⟨k, named⟩ := Option.ne_none_iff_exists'.1 held
    have holds := (old.holder k).2 named
    refine .of_held (l := k) (by rw [own]; exact ⟨named, rfl⟩) (fun j => ?_) fun j => ?_
    · rw [lane]
      split
      · rename_i e
        subst e
        refine iff_of_false (bare p).1 ?_
        rintro rfl
        rw [hl] at holds; cases holds
      · rw [old.holder, named, Option.some.injEq]
    · rw [lane]
      split
      · exact (bare p).2
      · rename_i ne
        exact fun e => ne (Option.some.inj (claims.symm.trans ((old.claim j).1 e)))

/-- A lane gives up its role, whatever it is (R74, R157, R158). -/
theorem State.Stations.releaseRole (h : s.Stations v n none) {l : Fin 12} {y : Lane} (bare : y.role.Bare)
    (idle : y.state = .free → y.role = .none) : ((s.setLane l y).releaseRole (s.lane l).role).Stations v n none := by
  cases r : (s.lane l).role with
  | none => exact h.setLane_bare (r ▸ Role.bare_none) bare idle
  | guest p => exact h.setLane_bare (r ▸ Role.bare_guest p) bare idle
  | coldGuest p => exact h.setLane_bare (r ▸ Role.bare_coldGuest p) bare idle
  | holder p => exact h.releaseHolder r nofun bare idle
  | claim p => exact h.dropClaim r bare idle

/-! ### The three ways to a role (R148 to R151) -/

/-- A lane that is not FREE and has no role becomes the holder of a profile that is listed and has none (R151). -/
theorem State.Stations.becomeHolder (h : s.Stations v n none) {l : Fin 12} {p : Fin 384} (bare : (s.lane l).role.Bare)
    (occupied : (s.lane l).state ≠ .free) (listed : (s.prof p).key.isSome) (vacant : (s.prof p).holder = none) :
    (s.becomeHolder l p).Stations v n none := by
  have old := h.staffed p
  have unclaimed := (h.profile p).unclaimed vacant
  have work := s.becomeHolder_work l p
  have prof := s.becomeHolder_prof l p
  have role := fun k => s.becomeHolder_role l k p
  have state : ∀ k, ((s.becomeHolder l p).lane k).state = (s.lane k).state := fun k => (work.judging.service k).1
  generalize s.becomeHolder l p = t at work prof role state ⊢
  have own : t.prof p = { s.prof p with holder := some l } := (prof p).trans (if_pos rfl)
  refine h.concerns nofun
    ⟨work.frame.nodeSettings, work.frame.directory, fun q ne => (prof q).trans (if_neg ne.symm), fun k => ?_⟩
    (own ▸ (h.profile p).withRoles _ (fun _ => rfl) (fun free => ?_) fun _ => rfl) (by rw [own]) ?_
  · rcases eq_or_ne l k with rfl | ne
    · rw [role, if_pos rfl, state]
      exact .inr ⟨bare.about p, Role.about_holder p, fun e => absurd e occupied⟩
    · exact .inl ⟨state k, by rw [role, if_neg ne]⟩
  · have := (h.profile p).keyed.1 listed
    simp [free] at this
  · refine .of_held (l := l) (by rw [own]; exact ⟨rfl, unclaimed⟩) (fun k => ?_) fun k => ?_
    · rw [role]
      split
      · exact iff_of_true rfl ‹_›
      · rename_i ne
        exact iff_of_false (fun e => by have := (old.holder k).1 e; rw [vacant] at this; cases this) ne
    · rw [role]
      split
      · nofun
      · exact fun e => by have := (old.claim k).1 e; rw [unclaimed] at this; cases this

/-- A lane without a role waits in ARMED behind the holder of a profile, which is not in CLOSING (R150). -/
theorem State.Stations.waitBehind (h : s.Stations v n none) {l k : Fin 12} {p : Fin 384} {x : Lane}
    (bare : (s.lane l).role.Bare) (held : (s.prof p).holder = some k) (receiving : (s.lane k).state ≠ .closing)
    (unclaimed : (s.prof p).claim = none) (role : x.role = .claim p) (state : x.state = .armed) :
    ((s.setLane l x).setProf p { s.prof p with claim := some l }).Stations v n none := by
  have old := h.staffed p
  have other : l ≠ k := by
    rintro rfl
    exact (bare p).1 ((old.holder l).2 held)
  have prof : ∀ q, ((s.setLane l x).setProf p { s.prof p with claim := some l }).prof q =
      if p = q then { s.prof p with claim := some l } else s.prof q := fun q => by
    rw [State.setProf_prof, State.setLane_prof]
  have lane : ∀ j, ((s.setLane l x).setProf p { s.prof p with claim := some l }).lane j =
      if l = j then x else s.lane j := fun j => by rw [State.setProf_lane, State.setLane_lane]
  have frame : Frame s ((s.setLane l x).setProf p { s.prof p with claim := some l }) :=
    (Act.apply_frame (.lane l x) s).trans (Act.apply_frame (.prof p _) _)
  generalize (s.setLane l x).setProf p { s.prof p with claim := some l } = t at prof lane frame ⊢
  have own : t.prof p = { s.prof p with claim := some l } := (prof p).trans (if_pos rfl)
  refine h.concerns nofun
    ⟨frame.nodeSettings, frame.directory, fun q ne => (prof q).trans (if_neg ne.symm), fun j => ?lanes⟩
    (own ▸ (h.profile p).withRoles _ (fun _ => by rw [held]; rfl) (h.profile p).free (h.profile p).retiring)
    (by rw [own])
    (.of_claimed (k := k) (l := l) (by rw [own]; exact ⟨held, rfl⟩) (fun j => ?holds) (fun j => ?claims)
      (by rw [lane, if_neg other]; exact receiving) (by rw [lane, if_pos rfl]; exact state))
  case lanes =>
    rw [lane]
    split
    · rename_i e
      subst e
      rw [role, state]
      exact .inr ⟨bare.about p, Role.about_claim p, nofun⟩
    · exact .inl ⟨rfl, rfl⟩
  case holds =>
    rw [lane]
    split
    · rename_i e
      subst e
      rw [role]
      exact iff_of_false nofun other.symm
    · rw [old.holder, held, Option.some.injEq]
  case claims =>
    rw [lane]
    split
    · rename_i e
      exact iff_of_true role e
    · rename_i ne
      exact iff_of_false (fun e => by have := (old.claim j).1 e; rw [unclaimed] at this; cases this) ne

/-! ### The judgement (R160 to R163) -/

/-- The effect of a judgement leaves every role, and changes a listed profile alone (R160 to R162). -/
theorem State.Stations.judgeEffect (h : s.Stations v n w) {l : Fin 12} {p : Fin 384} (hl : (s.lane l).role = .holder p)
    (b : Bool) : (s.judgeEffect l p b).Stations v n w := by
  have held : (s.prof p).holder.isSome := by rw [((h.staffed p).holder l).1 hl]; rfl
  have judged {x : Lane} {q : Profile} (same : x.SameDuty (s.lane l)) (legal : q.Legal n)
      (standing : q.SameStanding (s.prof p)) : ((s.setLane l x).setProf p q).Stations v n w :=
    (h.setLane_same same).setProf legal standing
  unfold State.judgeEffect
  dsimp only
  split
  · exact h.setLane_same ⟨rfl, rfl⟩
  · rename_i due
    have kept : (s.prof p).state ≠ .retiring := fun retiring => due (by simp [notJudged, retiring])
    have failed : ((s.prof p).failed (s.lane l).chain.mer).Legal n := (h.profile p).failed _
    split
    · exact judged ⟨rfl, rfl⟩ ((h.profile p).passed h.limit ((h.profile p).listed held kept) _ _ _ _ _) ⟨rfl, rfl, rfl⟩
    · split
      · refine State.Stations.notify (judged ?_ failed (Profile.failed_standing _ _)) _
        exact ⟨rfl, rfl⟩
      · exact judged ⟨rfl, rfl⟩ failed (Profile.failed_standing _ _)

theorem State.judgeEffect_role (s : State) (l k : Fin 12) (p : Fin 384) (b : Bool) :
    ((s.judgeEffect l p b).lane k).role = (s.lane k).role := by
  have same {x : Lane} (e : x.role = (s.lane l).role) : ((s.setLane l x).lane k).role = (s.lane k).role := by
    rw [State.setLane_lane]
    split
    · rename_i own; rw [← own]; exact e
    · rfl
  unfold State.judgeEffect
  dsimp only
  split
  · exact same rfl
  · split
    · exact same rfl
    · split
      · exact same rfl
      · exact same rfl

theorem State.judgeEffect_claim (s : State) (l : Fin 12) (p : Fin 384) (b : Bool) :
    ((s.judgeEffect l p b).prof p).claim = (s.prof p).claim := by
  have failed := ((s.prof p).failed_standing (s.lane l).chain.mer).2.2
  unfold State.judgeEffect
  dsimp only
  split
  · rfl
  · split
    · rw [State.setProf_prof, if_pos rfl]; rfl
    · split
      · rw [State.notify_prof, State.setProf_prof, if_pos rfl]; exact failed
      · rw [State.setProf_prof, if_pos rfl]; exact failed

/-- A holder is judged and released (R160, R163). -/
theorem State.Stations.judge (h : s.Stations v n w) {l : Fin 12} {p : Fin 384} (hl : (s.lane l).role = .holder p)
    (hw : ∀ q, w = some q → q = p) (b : Bool) : (s.judge l p b).Stations v n none := by
  have role := (s.judgeEffect_role l l p b).trans hl
  exact (h.judgeEffect hl b).releaseHolder role hw Role.bare_none fun _ => rfl

/-- A judgement of a holder without a claim waiting leaves the profile without a holder. -/
theorem State.judge_vacates (s : State) (l : Fin 12) {p : Fin 384} (b : Bool) (unclaimed : (s.prof p).claim = none) :
    ((s.judge l p b).prof p).holder = none := by
  unfold State.judge
  rw [State.releaseHolder_prof, if_pos rfl, State.setLane_prof, Profile.released]
  split
  · rfl
  · exact (s.judgeEffect_claim l p b).trans unclaimed

/-- The judged lane has no role, and a lane that does not claim the profile keeps its own. -/
theorem State.judge_role (s : State) (l : Fin 12) {k : Fin 12} {p : Fin 384} (b : Bool)
    (unclaimed : (s.prof p).claim = none) :
    ((s.judge l p b).lane k).role = if l = k then .none else (s.lane k).role := by
  unfold State.judge
  rw [State.releaseHolder_role, State.setLane_prof, State.judgeEffect_claim, unclaimed, if_neg nofun,
    State.setLane_lane, apply_ite Lane.role, State.judgeEffect_role]

/-- No claim waits behind a holder in CLOSING (R71). -/
theorem State.Stations.unclaimed_of_closing (h : s.Stations v n none) {l : Fin 12} {p : Fin 384}
    (held : (s.prof p).holder = some l) (closing : (s.lane l).state = .closing) : (s.prof p).claim = none :=
  Option.not_isSome_iff_eq_none.1 fun claimed => (h.staffed p).awaited nofun l held claimed closing

/-! ### The checkout (R147 to R153) -/

theorem State.lookup_mem {k : Key} {p : Fin 384} (found : s.lookup k = some p) : ⟨k, p⟩ ∈ s.directory := by
  obtain ⟨e, he, rfl⟩ := Option.map_eq_some_iff.1 found
  obtain rfl : e.key = k := by simpa using List.find?_some he
  exact List.mem_of_find?_eq_some he

theorem State.lookup_eq_none {k : Key} (missing : s.lookup k = none) : ∀ e ∈ s.directory, e.key ≠ k := by
  simpa [State.lookup] using missing

/-- The profile of a directory entry has a key, and keeps it as long as the directory stands. -/
theorem State.Stations.key_isSome (h : s.Stations v n w) {e : DirEntry} (he : e ∈ s.directory) :
    (s.prof e.profile).key.isSome := by rw [h.listing.named e he]; rfl

/-- A candidate for the holder role becomes holder, at once or by a forward, claimant, or guest (R150, R153). -/
theorem State.Stations.checkoutCandidate (h : s.Stations v n none) {l : Fin 12} {e : DirEntry}
    (armed : (s.lane l).state = .armed) (free : (s.lane l).role = .none) (he : e ∈ s.directory) :
    (s.checkoutCandidate l e.profile).Stations v n none := by
  have bare : (s.lane l).role.Bare := free ▸ Role.bare_none
  have occupied : (s.lane l).state ≠ .free := by rw [armed]; decide
  unfold State.checkoutCandidate
  split
  · rename_i vacant
    exact h.becomeHolder bare occupied (h.key_isSome he) vacant
  · rename_i k held
    split
    · rename_i closing
      have unclaimed := h.unclaimed_of_closing held closing
      have other : k ≠ l := by rintro rfl; rw [armed] at closing; cases closing
      have work := s.judge_work k e.profile true
      have judged := h.judge (((h.staffed _).holder k).2 held) nofun true
      refine judged.becomeHolder ?_ ?_ (judged.key_isSome ?_) (s.judge_vacates k true unclaimed)
      · rw [s.judge_role k true unclaimed, if_neg other]; exact bare
      · rw [(work.service l).1]; exact occupied
      · rw [work.frame.directory]; exact he
    · rename_i receiving
      split
      · rename_i unclaimed
        exact h.waitBehind bare held receiving unclaimed rfl armed
      · refine h.setLane_bare bare (Role.bare_guest _) fun e => ?_
        exact absurd ((Lane.asGuest_service _ _ _).1.symm.trans e) occupied

/-- A checkout of a lane just allocated (R147 to R153). -/
theorem State.Stations.checkout (h : s.Stations v n none) {l : Fin 12} (armed : (s.lane l).state = .armed)
    (free : (s.lane l).role = .none) : (s.checkout l).Stations v n none := by
  have bare : (s.lane l).role.Bare := free ▸ Role.bare_none
  have occupied : (s.lane l).state ≠ .free := by rw [armed]; decide
  have guest {x : Lane} (hx : x.role.Bare) (service : x.SameService (s.lane l)) : (s.setLane l x).Stations v n none :=
    h.setLane_bare bare hx fun e => absurd (service.1.symm.trans e) occupied
  unfold State.checkout
  dsimp only
  split
  · exact guest (Role.bare_coldGuest _) (Lane.asColdGuest_service _ _)
  · split
    · exact guest (Role.bare_coldGuest _) ⟨rfl, rfl, rfl, rfl, rfl⟩
    · rename_i p found
      split
      · split
        · exact guest (Role.bare_coldGuest _) (Lane.asColdGuest_service _ _)
        · exact guest (Role.bare_guest _) (Lane.asGuest_service _ _ _)
      · exact h.checkoutCandidate armed free (State.lookup_mem found)

/-- A claim still standing at the window opening is dropped, any other role stays (R156, R159). -/
theorem State.Stations.claimAtWindow (h : s.Stations v n none) (l : Fin 12) : (s.claimAtWindow l).Stations v n none := by
  unfold State.claimAtWindow
  split
  · rename_i p claims
    have occupied : (s.lane l).state ≠ .free := by rw [(h.staffed p).armed l claims]; decide
    dsimp only
    refine h.dropClaim claims ?_ fun e => absurd (Eq.trans ?_ e) occupied
    · split
      · exact Role.bare_coldGuest _
      · exact Role.bare_guest _
    · split
      · exact (Lane.asColdGuest_service _ _).1.symm
      · exact (Lane.asGuest_service _ _ _).1.symm
  all_goals exact h

/-- Once its window opens a lane claims no profile (R156). -/
theorem State.claimAtWindow_unclaiming (s : State) (l : Fin 12) (p : Fin 384) :
    ((s.claimAtWindow l).lane l).role ≠ .claim p := by
  unfold State.claimAtWindow
  split
  · dsimp only
    rw [State.dropClaim_lane, State.setLane_lane, if_pos rfl]
    split
    · nofun
    · nofun
  all_goals
    rename_i role
    rw [role]
    nofun

end Sys2Proof.Machine
end

section
/-! The reception keeps the law of the stations: arming, closing, arriving samples, aborts. -/

namespace Sys2Proof.Machine

section Reception

variable {s : State} {v : NodeSettings} {n : Nat} (h : s.Stations v n none)
include h

theorem State.Stations.settle (ch : Fin 6) : (s.settle ch).Stations v n none := by
  unfold State.settle
  split
  · exact h.setChan _ _
  · exact h

theorem State.Stations.emitLane (l : Fin 12) (r : BurstRecord) : (s.emitLane l r).Stations v n none := h.emitRecord _

/-! ### Arming -/

theorem State.Stations.leaveWithoutLane (ch : Fin 6) (g : QueuedGrant) (o : BurstOutcome) :
    (s.leaveWithoutLane ch g o).Stations v n none := by
  unfold State.leaveWithoutLane
  dsimp only
  split
  · exact (h.emitRecord _).setQueue _ _
  · exact h.emitRecord _

omit h in
theorem State.freeLane_state {pool : List (Fin 12)} {l : Fin 12} (found : s.freeLane pool = some l) :
    (s.lane l).state = .free := by simpa using List.find?_some found

/-- An allocated lane was FREE, so it has no role before its checkout (R46, R56). -/
theorem State.Stations.armGrant (pool : List (Fin 12)) (ch : Fin 6) (g : QueuedGrant) :
    (s.armGrant pool ch g).1.Stations v n none := by
  unfold State.armGrant
  dsimp only
  split
  · exact h.leaveWithoutLane _ _ _
  · split
    · exact h.leaveWithoutLane _ _ _
    · split
      · exact h.leaveWithoutLane _ _ _
      · rename_i l found
        have bare : (s.lane l).role.Bare := h.idle l (State.freeLane_state found) ▸ Role.bare_none
        have allocated := h.setLane_bare (x := s.allocated ch g (s.expectedOffset ch g.grant)) bare Role.bare_none nofun
        refine allocated.checkout ?_ ?_
        · rw [State.setLane_lane, if_pos rfl]; rfl
        · rw [State.setLane_lane, if_pos rfl]; rfl

theorem State.Stations.armHead (pool : List (Fin 12)) (ch : Fin 6) : (s.armHead pool ch).1.Stations v n none := by
  unfold State.armHead
  split
  · exact h
  · exact (h.setQueue _ _).armGrant _ _ _

omit h in
theorem armRun_stations (pool : List (Fin 12)) (ch : Fin 6) (k : Nat) {s : State} (h : s.Stations v n none) :
    (armRun pool ch k s).Stations v n none := by
  induction k generalizing s with
  | zero => exact h
  | succ k ih =>
    unfold armRun
    split
    · exact ih (h.armHead _ _)
    · exact h

theorem State.Stations.runQueue (pool : List (Fin 12)) (ch : Fin 6) : (s.runQueue pool ch).Stations v n none :=
  armRun_stations pool ch _ h

omit h in
theorem brokenRun_stations (ch : Fin 6) (k : Nat) {r : State × Bool} (h : r.1.Stations v n none) :
    (brokenRun ch k r).Stations v n none := by
  induction k generalizing r with
  | zero => exact h
  | succ k ih =>
    unfold brokenRun
    split
    · exact ih (h.armHead _ _)
    · exact h

theorem State.Stations.fallback (ch : Fin 6) (b : Bool) : (s.fallback ch b).Stations v n none := by
  have broken := brokenRun_stations ch (s.queue ch).length (h.armHead laneIds ch)
  unfold State.fallback
  dsimp only
  split
  · exact broken
  · exact broken.runQueue _ _

/-! ### Closing and the end of a grant -/

/-- At the entry to CLOSING a holder with a claim waiting is judged and released at once (R71, R155). -/
theorem State.Stations.enterClosing {l : Fin 12} (past : (s.lane l).state ≠ .armed) (o : BurstOutcome) :
    (s.enterClosing l o).Stations v n none := by
  have closed {w : Option (Fin 384)} (waived : ∀ p, (s.lane l).role = .holder p → (s.prof p).claim.isSome → w = some p) :
      (s.setLane l { s.lane l with
        state := .closing, closeCount := 0, record := some ((s.lane l).closingRecord l o), lowCount := 0
        lowStart := 0 }).Stations v n w :=
    h.setLane (fun _ => ⟨Iff.rfl, Iff.rfl⟩) nofun (fun p claims => absurd claims (h.unclaiming past p))
      (fun _ => waived) nofun
  unfold State.enterClosing
  dsimp only
  split
  · rename_i p role
    have same {q : Fin 384} (e : (s.lane l).role = .holder q) : q = p := Role.holder.inj (e.symm.trans role)
    split
    · have entered := closed (w := some p) fun q e _ => by rw [same e]
      refine entered.judge ?_ (fun q e => Option.some.inj e.symm) _
      rw [State.setLane_lane, if_pos rfl]
      exact role
    · rename_i unclaimed
      exact closed fun q e claimed => absurd (same e ▸ claimed) unclaimed
  all_goals
    rename_i role
    exact closed fun q e => nomatch role.symm.trans e

theorem State.Stations.endEarly {l : Fin 12} (past : (s.lane l).state ≠ .armed) (o : BurstOutcome) :
    (s.endEarly l o).Stations v n none := by
  unfold State.endEarly
  dsimp only
  split
  · exact (h.enterClosing past o).fallback _ _
  · exact h.enterClosing past o

/-- The lane goes on in the next grant of its chain in its state and with its role (R67). -/
theorem State.Stations.continueLane (l : Fin 12) : (s.continueLane l).Stations v n none := by
  unfold State.continueLane
  dsimp only
  split
  · exact h
  · refine State.Stations.setLane_same ((h.emitLane _ _).setQueue _ _) ?_
    rw [State.setQueue_lane, State.emitLane_lane]
    exact ⟨rfl, rfl⟩

omit h in
theorem endGrants_stations (l : Fin 12) (k : Nat) {s : State} (h : s.Stations v n none)
    (past : (s.lane l).state ≠ .armed) : (endGrants l k s).Stations v n none := by
  induction k generalizing s with
  | zero => exact h
  | succ k ih =>
    unfold endGrants
    dsimp only
    split
    · split
      · exact ih (h.continueLane l) (by rw [State.continueLane_lane_state]; exact past)
      · exact h.continueLane l
    · exact h.enterClosing past _

theorem State.Stations.endOfGrant {l : Fin 12} (past : (s.lane l).state ≠ .armed) :
    (s.endOfGrant l).Stations v n none := by
  have ended := endGrants_stations l ((s.queue (s.lane l).channel).length + 1) h past
  unfold State.endOfGrant
  dsimp only
  split
  · exact ended.runQueue _ _
  · exact ended

/-! ### Arrivals -/

/-- A symbol leaves its lane in TRAINING or TRACKING, with its role (R60). -/
theorem State.Stations.symbolArrival (l : Fin 12) (pos : Int) : (s.symbolArrival l pos).Stations v n none := by
  unfold State.symbolArrival
  dsimp only
  split
  · rename_i due
    obtain ⟨state, -, -, role⟩ := (s.lane l).processNext_fields (s.chan (s.lane l).channel).spm.spm due.1
    generalize (s.lane l).processNext (s.chan (s.lane l).channel).spm.spm = y at state role ⊢
    have processed : (s.setLane l y).Stations v n none := by
      refine h.setLane_receiving role ?_ (h.unclaiming ?_)
      · rcases state with e | e <;> rw [e] <;> rfl
      · rcases due.1 with e | e <;> rw [e] <;> decide
    split
    · refine processed.endOfGrant ?_
      rw [State.setLane_lane, if_pos rfl]
      rcases state with e | e <;> rw [e] <;> decide
    · exact processed
  · exact h

theorem State.Stations.blockArrival (l : Fin 12) (pos : Int) : (s.blockArrival l pos).Stations v n none := by
  unfold State.blockArrival
  dsimp only
  split
  · rename_i tracking
    split
    · exact h
    · rename_i j0 _
      obtain ⟨state, -, -, role⟩ := (s.lane l).watchBlock_fields j0
      generalize (s.lane l).watchBlock j0 = y at state role ⊢
      split
      · obtain ⟨stateLate, -, -, roleLate⟩ := y.removeLate_fields
        refine State.Stations.endEarly (h.setLane_same ⟨stateLate.trans state, roleLate.trans role⟩) ?_ _
        rw [State.setLane_lane, if_pos rfl, stateLate, state, tracking.1]
        decide
      · exact h.setLane_same ⟨state, role⟩
  · exact h

theorem State.Stations.positionArrival (l : Fin 12) (pos : Int) : (s.positionArrival l pos).Stations v n none :=
  (h.symbolArrival l pos).blockArrival l pos

omit h in
theorem catchUp_stations (l : Fin 12) (k : Nat) (pos : Int) {s : State} (h : s.Stations v n none) :
    (catchUp l k pos s).Stations v n none := by
  induction k generalizing s pos with
  | zero => exact h
  | succ k ih => exact ih _ (h.positionArrival l pos)

theorem State.Stations.laneSample (l : Fin 12) (x : Sample) : (s.laneSample l x).Stations v n none := by
  have buffered : (s.setLane l { s.lane l with buffer := (s.lane l).buffer ++ [x] }).Stations v n none :=
    h.setLane_same ⟨rfl, rfl⟩
  unfold State.laneSample
  dsimp only
  split
  · exact h
  · exact h
  · exact buffered
  · exact buffered.positionArrival _ _
  · exact buffered.positionArrival _ _
  · exact h.setLane_same ⟨rfl, rfl⟩

theorem State.Stations.sampleArrival (ls : List (Fin 12)) (x : Sample) :
    (ls.foldl (fun s l => s.laneSample l x) s).Stations v n none :=
  List.foldlRecOn ls _ h fun _ hu l _ => hu.laneSample l x

/-! ### Aborts -/

/-- An aborted lane becomes FREE and gives up its role (R74). -/
theorem State.Stations.abortReceiving (l : Fin 12) (c : AbortCause) (b : Bool) :
    (s.abortReceiving l c b).Stations v n none := by
  have freed {u : State} (hu : u.Stations v n none) (e : u.lane l = s.lane l) :
      ((u.setLane l Lane.idle).releaseRole (s.lane l).role).Stations v n none :=
    e ▸ hu.releaseRole Role.bare_none fun _ => rfl
  have recorded : ((if (s.chan (s.lane l).channel).disposition = .silent then s else s.emitLane l
      ((s.lane l).abortRecord l c (s.chan (s.lane l).channel).disposition)).setLane l Lane.idle |>.releaseRole
        (s.lane l).role).Stations v n none := by
    split
    · exact freed h rfl
    · exact freed (h.emitLane _ _) (State.emitLane_lane _ _ _ _)
  unfold State.abortReceiving
  dsimp only
  split
  · exact (recorded.fallback _ _).settle _
  · exact recorded.settle _

theorem State.Stations.abortClosing (l : Fin 12) : (s.abortClosing l).Stations v n none := by
  unfold State.abortClosing
  dsimp only
  split
  · exact (h.releaseRole Role.bare_none fun _ => rfl).settle _
  · rename_i r _
    have freed := (h.emitLane l r).releaseRole (l := l) (y := Lane.idle) Role.bare_none fun _ => rfl
    rw [State.emitLane_lane] at freed
    exact freed.settle _

omit h in
theorem State.abortLane_stations (c : AbortCause) (b : Bool) {s : State} (h : s.Stations v n none) (l : Fin 12) :
    (State.abortLane c b s l).Stations v n none := by
  unfold State.abortLane
  split
  · exact h
  · exact h.abortClosing l
  all_goals exact h.abortReceiving l c b

/-- The aborts of one event (R77). -/
theorem State.Stations.abortLanes (c : AbortCause) (b : Bool) (ls : List (Fin 12)) :
    (s.abortLanes c b ls).Stations v n none :=
  List.foldlRecOn ls _ h fun _ hu l _ => State.abortLane_stations c b hu l

theorem State.Stations.haltChannel (ch : Fin 6) (c : AbortCause) : (s.haltChannel ch c).Stations v n none :=
  ((h.setQueue ch []).abortLanes _ _ _).setChan _ _

/-! ### The lanes' events -/

theorem State.Stations.openWindow (l : Fin 12) : (s.openWindow l).Stations v n none := by
  unfold State.openWindow
  split
  · exact State.abortLane_stations _ _ h l
  · exact State.Stations.setLane_receiving (h.claimAtWindow l) rfl rfl (s.claimAtWindow_unclaiming l)

theorem State.Stations.endSearch {l : Fin 12} (searching : (s.lane l).state = .searching) :
    (s.endSearch l).Stations v n none := by
  have past : (s.lane l).state ≠ .armed := by rw [searching]; decide
  unfold State.endSearch
  dsimp only
  split
  · exact catchUp_stations _ _ _ (h.setLane_receiving rfl rfl (h.unclaiming past))
  · exact h.endEarly past _

/-- A close completes: the holder that no claim has forwarded is judged now, and its lane becomes FREE (R73). -/
theorem State.Stations.completeClose {l : Fin 12} (closing : (s.lane l).state = .closing) :
    (s.completeClose l).Stations v n none := by
  have completed : ∀ u : State, u.Stations v n none → (u.lane l).role.Bare →
      (((match (u.lane l).record with
        | none => u
        | some r => u.emitLane l r).setLane l Lane.idle).settle (u.lane l).channel).Stations v n none := by
    intro u hu bare
    split
    · exact (hu.setLane_bare bare Role.bare_none fun _ => rfl).settle _
    · rename_i r _
      rw [← State.emitLane_lane u l r l] at bare
      exact State.Stations.settle ((hu.emitLane l r).setLane_bare bare Role.bare_none fun _ => rfl) _
  unfold State.completeClose
  cases role : (s.lane l).role with
  | holder p =>
    have held := ((h.staffed p).holder l).1 role
    refine completed _ (h.judge role nofun false) ?_
    rw [s.judge_role l false (h.unclaimed_of_closing held closing), if_pos rfl]
    exact Role.bare_none
  | claim p => exact absurd role (h.unclaiming (by rw [closing]; decide) p)
  | none => exact completed s h (role ▸ Role.bare_none)
  | guest p => exact completed s h (role ▸ Role.bare_guest p)
  | coldGuest p => exact completed s h (role ▸ Role.bare_coldGuest p)

end Reception

end Sys2Proof.Machine
end

section
/-! The commands that concern profiles, the timebase, the tables and the node keep the law of the stations, and so does
every step. -/

namespace Sys2Proof.Machine

section Operations

variable {s : State} {v : NodeSettings} {n : Nat} (h : s.Stations v n none)
include h

/-! ### The timebase (chapter 1) -/

theorem State.Stations.resync : s.resync.Stations v n none := by
  unfold State.resync
  split
  · exact (h.setSync _).notify _
  · exact h
  · exact h

theorem State.Stations.firstMark (t : Tick) : (s.firstMark t).Stations v n none :=
  (((h.setCounter t).setSync _).setLastMark t).notify _

theorem State.Stations.moveMark (d : Int) : (s.moveMark d).Stations v n none := ((h.setCounter _).setLastMark _).resync

/-- The armings of a forward step (R8). -/
theorem State.Stations.armAll (pool : List (Fin 12)) : (s.armAll pool).Stations v n none := by
  refine List.foldlRecOn channelIds _ h fun u hu ch _ => ?_
  split
  · exact (hu.runQueue pool ch).settle ch
  · exact hu

theorem State.Stations.stepMark (t : Tick) (d : Int) : (s.stepMark t d).Stations v n none := by
  have aborted := (h.stepCounter t).abortLanes .timebaseStep (decide (0 < d))
    (laneIds.filter fun l => ((s.stepCounter t).lane l).state != .free)
  have marked {u : State} (hu : u.Stations v n none) :
      (((u.notify (.timebaseStep (saturateStep d))).setLastMark t).resync).Stations v n none :=
    ((hu.notify _).setLastMark t).resync
  unfold State.stepMark
  dsimp only
  split
  · exact marked (aborted.armAll _)
  · exact marked aborted

/-- A time mark that is taken (R5, R6, R7). -/
theorem State.Stations.takeMark (t : Tick) : (s.takeMark t).Stations v n none := by
  unfold State.takeMark
  split
  · exact h.firstMark t
  all_goals
    dsimp only
    split
    · exact h.moveMark _
    · exact h.stepMark t _

theorem State.Stations.enterHoldover : s.enterHoldover.Stations v n none := by
  have entered :=
    State.Stations.setTimebase (b := { s.timebase with sync := .holdover, holdoverStart := s.counter }) h rfl
  refine State.Stations.notify ?_ _
  refine entered.congr rfl rfl rfl fun l => ?_
  simp only [State.lane, Fin.getElem_fin, Vector.getElem_map, Lane.markHoldover]
  split <;> exact ⟨rfl, rfl⟩

theorem State.Stations.haltIfActive (ch : Fin 6) : (s.haltIfActive ch).Stations v n none := by
  unfold State.haltIfActive
  split
  · exact h.haltChannel ch _
  · exact h

theorem State.Stations.loseSync : s.loseSync.Stations v n none := by
  rw [State.loseSync_eq]
  exact List.foldlRecOn channelIds _ ((h.setSync _).notify _) fun _ hu ch _ => hu.haltIfActive ch

theorem State.Stations.expireNow : s.expireNow.Stations v n none := by
  unfold State.expireNow
  split
  · exact h.enterHoldover
  · split
    · exact h.loseSync
    · exact h

/-! ### Channels and intake (chapters 2 and 3) -/

theorem State.Stations.channelSet (m : Message) (c : ChannelSettings) (ch : Fin 6) :
    (s.channelSet m c ch).Stations v n none := by
  unfold State.channelSet
  split
  · exact h.respond _ _ _
  · exact (h.setChan _ _).respond _ _ _

theorem State.Stations.channelStart (m : Message) (ch : Fin 6) : (s.channelStart m ch).Stations v n none := by
  unfold State.channelStart
  split
  · exact h.respond _ _ _
  · exact h.respond _ _ _
  · exact h.respond _ _ _
  · split
    · exact h.respond _ _ _
    · exact State.Stations.respond (h.setChan _ _) _ _ _

theorem State.Stations.channelStop (m : Message) (ch : Fin 6) : (s.channelStop m ch).Stations v n none := by
  have stopping : (s.setChanState ch .stopping).Stations v n none := h.setChan _ _
  unfold State.channelStop
  split
  · exact h.respond _ _ _
  · exact h.respond _ _ _
  · exact h.respond _ _ _
  · exact (stopping.settle ch).respond _ _ _

theorem State.Stations.channelHalt (m : Message) (ch : Fin 6) : (s.channelHalt m ch).Stations v n none := by
  unfold State.channelHalt
  split
  · exact h.respond _ _ _
  · exact h.respond _ _ _
  all_goals exact (h.haltChannel ch _).respond _ _ _

omit h in
theorem intake_stations (ch : Fin 6) (gs : List Grant) (k : Nat) (b : Bool) {s : State} (h : s.Stations v n none) :
    (intake ch gs s k b).1.Stations v n none := by
  induction gs generalizing s k b with
  | nil => exact h
  | cons g gs ih =>
    unfold intake
    split
    · exact h
    · exact ih _ _ (h.setQueue _ _)

theorem State.Stations.schedule (m : Message) (gs : List Grant) (ch : Fin 6) :
    (s.schedule m gs ch).Stations v n none := by
  unfold State.schedule
  split
  · exact (intake_stations ch gs 0 false h).respond _ _ _
  · exact h.respond _ _ _

/-! ### Profile requests (R130 to R136) -/

/-- A BIND enters a FREE profile under a key that the directory does not hold (R130, R131). -/
theorem State.Stations.bind (m : Message) (r : BindRequest) : (s.bind m r).Stations v n none := by
  unfold State.bind
  split
  · split
    · dsimp only
      split
      · exact h.respond _ _ _
      · rename_i absent
        split
        · exact h.respond _ _ _
        · rename_i room
          split
          · exact h.respond _ _ _
          · rename_i free
            rw [not_not] at free
            rw [Option.not_isSome_iff_eq_none] at absent
            have legal := h.profile ⟨r.profile, ‹_›⟩
            refine State.Stations.respond (h.relist (legal.bound h.limit free _ r) ⟨rfl, rfl⟩ ?_) _ _ _
            exact h.listing.insert (State.lookup_eq_none absent) (not_le.1 room)
              (legal.unkeyed (by simp [free])) (if_pos rfl) fun q ne => if_neg ne.symm
    · exact h.respond _ _ _
  · exact h.respond _ _ _

/-- An UNBIND removes the entry of a listed profile (R132). -/
theorem State.Stations.unbind (m : Message) (station ch : Nat) : (s.unbind m station ch).Stations v n none := by
  unfold State.unbind
  split
  · dsimp only
    split
    · exact h.respond _ _ _
    · rename_i p found
      obtain ⟨key, roles⟩ := (s.prof p).unbound_fields
      refine State.Stations.respond (h.relist (h.profile p).unbound roles ?_) _ _ _
      exact h.listing.remove (h.listing.named _ (State.lookup_mem found)) ((if_pos rfl).trans key)
        fun q ne => if_neg ne.symm
  · exact h.respond _ _ _

/-- A request that changes a profile's numbers (R135, R136). -/
theorem State.Stations.onBoundProfile (m : Message) (p : Nat) {f : Profile → Profile}
    (legal : ∀ x : Profile, x.Legal n → (f x).Legal n) (same : ∀ x, (f x).SameStanding x) :
    (s.onBoundProfile m p f).Stations v n none := by
  unfold State.onBoundProfile
  split
  · dsimp only
    split
    · exact h.respond _ _ _
    · exact h.respond _ _ _
    all_goals exact (h.setProf (legal _ (h.profile _)) (same _)).respond _ _ _
  · exact h.respond _ _ _

/-! ### The ageing of profiles (R138 to R142) -/

/-- A visit counts the age of a BOUND profile up, as far as the limit (R139). -/
theorem State.Stations.visitProfile (limit : s.sweep.ageLimit = n) (p : Fin 384) :
    (s.visitProfile p).Stations v n none := by
  unfold State.visitProfile
  dsimp only
  split
  · rename_i ages
    have old := h.profile p
    have bound : (s.prof p).state = .bound := by
      rw [Profile.ages, Bool.and_eq_true, beq_iff_eq] at ages; exact ages.1
    have young := old.range.bound bound
    split
    · rename_i aged
      refine State.Stations.notify (h.setProf ?legal ?same) _
      case legal =>
        exact old.relist (.inl bound) (.inr rfl) ⟨rfl, rfl, rfl⟩
          { old.range with bound := nofun, stale := fun _ => aged.trans limit }
      case same => exact ⟨rfl, rfl, rfl⟩
    · rename_i younger
      refine h.setProf (old.renumber rfl ⟨rfl, rfl, rfl⟩ { old.range with
        bound := fun _ => ?_
        stale := fun stale => absurd (bound.symm.trans stale) nofun }) ⟨rfl, rfl, rfl⟩
      show min 15 _ < n
      omega
  · exact h

theorem State.Stations.visit (limit : s.sweep.ageLimit = n) : s.visit.Stations v n none :=
  (h.visitProfile limit s.sweep.pointer).setSweep rfl

omit h in
theorem State.alignProfile_prof (s : State) (p q : Fin 384) :
    (s.alignProfile p).prof q = if p = q then (s.prof p).aligned s.sweep.ageLimit else s.prof q := by
  unfold State.alignProfile Profile.aligned
  rcases eq_or_ne p q with rfl | ne
  · cases e : (s.prof p).state with
    | bound => by_cases aged : s.sweep.ageLimit ≤ (s.prof p).age <;> simp [e, aged]
    | _ => simp [e]
  · cases e : (s.prof p).state with
    | bound => by_cases aged : s.sweep.ageLimit ≤ (s.prof p).age <;> simp [e, aged, ne]
    | _ => simp [e, ne]

omit h in
/-- The alignment of a profile changes profiles and output alone. -/
theorem State.alignProfile_frame (s : State) (p : Fin 384) :
    (s.alignProfile p).lanes = s.lanes ∧ (s.alignProfile p).directory = s.directory ∧
      (s.alignProfile p).sweep = s.sweep ∧ (s.alignProfile p).timebase = s.timebase := by
  unfold State.alignProfile
  dsimp only
  split
  · split <;> exact ⟨rfl, rfl, rfl, rfl⟩
  all_goals exact ⟨rfl, rfl, rfl, rfl⟩

omit h in
theorem alignProfile_foldl (ps : List (Fin 384)) (s : State) :
    (∀ q, (ps.foldl State.alignProfile s).prof q = if q ∈ ps then (s.prof q).aligned s.sweep.ageLimit else s.prof q) ∧
      (ps.foldl State.alignProfile s).lanes = s.lanes ∧ (ps.foldl State.alignProfile s).directory = s.directory ∧
      (ps.foldl State.alignProfile s).sweep = s.sweep ∧ (ps.foldl State.alignProfile s).timebase = s.timebase := by
  induction ps generalizing s with
  | nil => simp
  | cons p ps ih =>
    obtain ⟨lanes, directory, sweep, timebase⟩ := s.alignProfile_frame p
    obtain ⟨prof, rest⟩ := ih (s.alignProfile p)
    rw [lanes, directory, sweep, timebase] at rest
    refine ⟨fun q => ?_, rest⟩
    rw [List.foldl_cons, prof, sweep, s.alignProfile_prof p q]
    rcases eq_or_ne p q with rfl | ne
    · simp [Profile.aligned_aligned]
    · simp [ne, ne.symm]

/-- The alignment brings every profile into line with the limit in force, whatever the limit was before (R142). -/
theorem State.Stations.alignAges (limit : 1 ≤ s.sweep.ageLimit) : s.alignAges.Stations v s.sweep.ageLimit none := by
  obtain ⟨prof, lanes, directory, sweep, timebase⟩ := alignProfile_foldl profileIds s
  have aligned : ∀ p, s.alignAges.prof p = (s.prof p).aligned s.sweep.ageLimit := fun p =>
    (prof p).trans (if_pos (List.mem_finRange p))
  have settings : s.alignAges.nodeSettings = s.nodeSettings := by
    simp only [State.nodeSettings, State.alignAges, sweep, timebase]
  refine h.transfer (settings.trans h.settings) limit directory (fun p => ?_) (fun p => ?_) fun l => ?_
  · rw [aligned]; exact (h.profile p).aligned _
  · rw [aligned]; exact (s.prof p).aligned_standing _
  · rw [State.lane, State.alignAges, lanes]; exact ⟨rfl, rfl⟩

/-! ### Tables (section 10.3) -/

theorem State.Stations.seek (m : Message) (t : TableId) (ch i : Nat) : (s.seek m t ch i).Stations v n none := by
  unfold State.seek
  split
  · exact h.respond _ _ _
  · split
    · exact h.respond _ _ _
    · exact (h.setLink _).respond _ _ _

theorem State.Stations.setTransfer (t : Option Transfer) : (s.setTransfer t).Stations v n none := h.setLink _

theorem State.Stations.endPut (tag : Byte) (st : Status) (k : Nat) : (s.endPut tag st k).Stations v n none :=
  (h.setTransfer none).respond _ _ _

theorem State.Stations.put (tag : Byte) (items : List PutItem) : (s.put tag items).Stations v n none := by
  unfold State.put
  split
  · exact h.endPut _ _ _
  · exact h.setTransfer _

theorem State.Stations.writeItem {a : AccessPointer} {i : PutItem} {t : State} {b : Bool}
    (taken : s.writeItem a i = .taken t b) : t.Stations v n none := by
  cases i with
  | classEntry e =>
    have taken : s.writeClass _ _ _ = .taken t b := taken
    unfold State.writeClass at taken
    split at taken
    · cases taken
    · cases taken; exact h.setChan _ _
  | pattern qs =>
    have taken : s.writePattern _ _ = .taken t b := taken
    unfold State.writePattern at taken
    split at taken
    · cases taken
    · cases taken; exact h.congr rfl rfl rfl fun _ => ⟨rfl, rfl⟩
  | coefficient c =>
    cases taken
    split
    · exact h.setProf ((h.profile _).putPrevious _ _) ⟨rfl, rfl, rfl⟩
    · exact h.setProf ((h.profile _).putCurrent _ _) ⟨rfl, rfl, rfl⟩
  | profileFields c b rl => cases taken; exact h.setProf ((h.profile _).putMeta _ _ _) ⟨rfl, rfl, rfl⟩

theorem State.Stations.putOne (tag : Byte) (i : PutItem) (left : List PutItem) (k : Nat) (b : Bool) :
    (s.putOne tag i left k b).Stations v n none := by
  unfold State.putOne
  split
  · exact h.endPut _ _ _
  · rename_i t c taken
    have moved := (h.writeItem taken).setLink { t.link with pointer := t.link.pointer.advance }
    dsimp only
    split
    · exact moved.endPut _ _ _
    · split
      · exact moved.endPut _ _ _
      · exact moved.setTransfer _

theorem State.Stations.endGet (tag : Byte) (a : AccessPointer) (st : Status) (k : Nat) (got : List Byte) :
    (s.endGet tag a st k got).Stations v n none := (h.setTransfer none).respond _ _ _

theorem State.Stations.get (tag : Byte) (k : Nat) : (s.get tag k).Stations v n none := by
  unfold State.get
  split
  · exact h.endGet _ _ _ _ _
  · exact h.setTransfer _

theorem State.Stations.getOne (tag : Byte) (a : AccessPointer) (left k : Nat) (got : List Byte) :
    (s.getOne tag a left k got).Stations v n none := by
  have moved := h.setLink { s.link with pointer := s.link.pointer.advance }
  unfold State.getOne
  dsimp only
  split
  · exact moved.endGet _ _ _ _ _
  · split
    · exact moved.endGet _ _ _ _ _
    · exact moved.setTransfer _

theorem State.Stations.unlessFull {t : State} (ht : t.Stations v n none) (room : Nat) :
    (s.unlessFull t room).Stations v n none := by
  unfold State.unlessFull
  split
  · exact ht
  · exact h

/-! ### The node (sections 1.6, 1.7 and 10.4) -/

/-- New settings with the ages as they are. -/
theorem State.Stations.applySettings (x : NodeSettings) : (s.applySettings x).Stations x n none :=
  h.transfer rfl h.limit rfl h.profile (fun _ => Profile.SameStanding.rfl _) fun _ => ⟨rfl, rfl⟩

theorem State.Stations.receiveFrame (bytes : List Byte) : (s.receiveFrame bytes).Stations v n none := by
  unfold State.receiveFrame
  split
  · exact h
  · split
    · exact h.setLink _
    · exact h

theorem State.Stations.sendFrame : s.sendFrame.Stations v n none := by
  unfold State.sendFrame
  split
  · exact h
  · split
    · exact h.setOutput _
    · exact h

omit h in
theorem State.nodeReset_prof (s : State) (p : Fin 384) : s.nodeReset.prof p = (s.prof p).atNodeReset := by
  simp [State.nodeReset, State.prof]

omit h in
theorem State.nodeReset_lane (s : State) (l : Fin 12) : s.nodeReset.lane l = Lane.idle := by
  simp [State.nodeReset, State.lane]

/-- RESET NODE leaves no lane and no profile with a role; the directory stays (R78, R145). -/
theorem State.Stations.nodeReset : s.nodeReset.Stations v n none where
  settings := h.settings
  limit := h.limit
  profile p := by rw [State.nodeReset_prof]; exact (h.profile p).atNodeReset
  listing := by
    have keys : (fun p => (s.nodeReset.prof p).key) = fun p => (s.prof p).key := funext fun p => by
      rw [State.nodeReset_prof]; exact (h.profile p).atNodeReset_key
    rw [keys]
    exact h.listing
  staffed p := .of_vacant (by rw [State.nodeReset_prof]; exact (s.prof p).atNodeReset_roles) fun l => by
    rw [State.nodeReset_lane]; exact Role.bare_none p
  idle l _ := by rw [State.nodeReset_lane]; rfl

end Operations

end Sys2Proof.Machine
end

section
/-! Every step keeps the law of the stations (R127, R140, R154). -/

namespace Sys2Proof.Machine

/-! ### NODE SET and the values after reset -/

theorem State.SettingsLegal.of_clamped {s : State} {x : NodeSettings} (e : s.nodeSettings = clampSettings x) :
    s.SettingsLegal := by
  simp only [State.nodeSettings, clampSettings, NodeSettings.mk.injEq] at e
  obtain ⟨markTimeout, holdoverLimit, stepTolerance, ageingPeriod, ageLimit⟩ := e
  constructor
  · rw [markTimeout]; exact clampNat_mem (by decide) _
  · rw [holdoverLimit]; exact clampNat_mem (by decide) _
  · rw [stepTolerance]; exact min_le_left _ _
  · rw [ageingPeriod]; exact clampNat_mem (by decide) _
  · rw [ageLimit]; exact clampNat_mem (by decide) _

/-- Between the new settings and the alignment the ages agree with the old limit, and aborts may happen (R142, R194). -/
theorem State.StationsLegal.nodeSet {s : State} (h : s.StationsLegal) (m : Message) (x : NodeSettings) :
    (s.nodeSet m x).StationsLegal := by
  obtain ⟨-, stations⟩ := State.stationsLegal_iff.1 h
  have expired := ((stations.applySettings (clampSettings x)).respond m
    (clampStatus (decide (clampSettings x ≠ x))) []).expireNow
  have settled : (s.nodeSet m x).Stations (clampSettings x) (clampSettings x).ageLimit none := by
    unfold State.nodeSet
    dsimp only
    generalize ((s.applySettings (clampSettings x)).respond m
      (clampStatus (decide (clampSettings x ≠ x))) []).expireNow = u at expired ⊢
    have limit : u.sweep.ageLimit = (clampSettings x).ageLimit := congrArg NodeSettings.ageLimit expired.settings
    refine State.Stations.setNextVisit ?_ _
    split
    · rw [← limit]
      refine expired.alignAges ?_
      rw [limit]
      exact (clampNat_mem (by decide) _).1
    · rename_i same
      have same : (clampSettings x).ageLimit = s.sweep.ageLimit := by simpa using same
      rw [same]
      exact expired
  have settings := settled.settings
  have limit : (s.nodeSet m x).sweep.ageLimit = (clampSettings x).ageLimit := congrArg NodeSettings.ageLimit settings
  refine State.stationsLegal_iff.2 ⟨.of_clamped settings, ?_⟩
  rw [limit, settings]
  exact settled

theorem State.reset_prof (p : Fin 384) : State.reset.prof p = Profile.free := by
  simp [State.prof, State.reset]

theorem State.reset_lane (l : Fin 12) : State.reset.lane l = Lane.idle := by
  simp [State.lane, State.reset]

/-- After power-on every profile is FREE, the directory empty and no lane has a role (R79, R144). -/
theorem State.reset_stationsLegal : State.reset.StationsLegal := by
  refine State.stationsLegal_iff.2
    ⟨by constructor <;> decide, rfl, by decide, fun p => ?_, ?_, fun p => ?_, fun l _ => ?_⟩
  · rw [State.reset_prof]; exact Profile.free_legal _
  · refine ⟨List.Pairwise.nil, Nat.zero_le _, nofun, fun p k keyed => ?_⟩
    rw [State.reset_prof] at keyed
    cases keyed
  · refine .of_vacant (by rw [State.reset_prof]; exact ⟨rfl, rfl⟩) fun l => ?_
    rw [State.reset_lane]
    exact Role.bare_none p
  · rw [State.reset_lane]; rfl

/-! ### Messages taken (R186) -/

theorem stationsLegal_linkBlind : LinkBlind State.StationsLegal where
  setLink _ n _ h := h.of fun h => h.setLink n
  respond _ m st fs h := h.of fun h => h.respond m st fs

section Messages

variable {s t : State} {m : Message}

/-- A message on a channel whose operation keeps the law. -/
theorem State.StationsLegal.onChannel (h : s.StationsLegal) {k : Nat} {fs : List Byte} {act : State → Fin 6 → State}
    (kept : ∀ {v n} ch, s.Stations v n none → (act s ch).Stations v n none) : (s.onChannel m k fs act).StationsLegal :=
  stationsLegal_linkBlind.onChannel (fun ch => h.of (kept ch)) h

theorem State.StationsLegal.ite {p : Prop} [Decidable p] {t e : State} (ht : t.StationsLegal) (he : e.StationsLegal) :
    (if p then t else e).StationsLegal := by
  split
  · exact ht
  · exact he

/-- A message whose owner keeps the law. -/
theorem State.StationsLegal.passOn (h : s.StationsLegal) {α : Type} {form : Option α} {bad : Status} {room : Nat}
    {act : State → α → State} (kept : ∀ {u : State} x, u.StationsLegal → (act u x).StationsLegal) :
    (s.passOn m form bad room act).StationsLegal := stationsLegal_linkBlind.passOn (fun x _ => kept x) h

/-- Whatever kind a message has, its owner keeps the law. -/
theorem State.StationsLegal.takeMessage (h : s.StationsLegal) (m : Message) : (s.takeMessage m).StationsLegal :=
  (h.passOn fun _ h => h.of fun h => h.takeMark _).ite <|
  (h.passOn fun _ h => h.nodeSet m _).ite <|
  (h.passOn fun _ h => h.of fun h => (h.respond _ _ _).nodeReset).ite <|
  (h.passOn fun c h => h.onChannel fun ch h => h.channelSet m c ch).ite <|
  (h.passOn fun _ h => h.onChannel fun ch h => h.channelStart m ch).ite <|
  (h.passOn fun _ h => h.onChannel fun ch h => h.channelStop m ch).ite <|
  (h.passOn fun _ h => h.onChannel fun ch h => h.channelHalt m ch).ite <|
  (h.passOn fun r h => h.onChannel fun ch h => h.schedule m r.2 ch).ite <|
  (h.passOn fun r h => h.of fun h => h.bind m r).ite <|
  (h.passOn fun r h => h.of fun h => h.unbind m r.1 r.2).ite <|
  (h.passOn fun p h => h.of fun h =>
    h.onBoundProfile m p (fun _ hx => hx.markOverridden.revert) fun _ => ⟨rfl, rfl, rfl⟩).ite <|
  (h.passOn fun p h => h.of fun h => h.onBoundProfile m p (fun _ hx => hx.cleared) fun _ => ⟨rfl, rfl, rfl⟩).ite <|
  (h.passOn fun _ h => h.of fun h => h.seek m _ _ _).ite <|
  (h.passOn fun _ h => h.of fun h => h.put _ _).ite <|
  (h.passOn fun _ h => h.of fun h => h.get _ _).ite <|
  (h.passOn fun _ h => h.of fun h => h.respond _ _ _).ite <|
  (h.passOn fun _ h => h.of fun h => h.respond _ _ _).ite <|
  h.passOn fun _ h => h

/-- The request held for room, passed on within FRAME_SEND (R179). -/
theorem State.StationsLegal.takeHeld (h : s.StationsLegal) : s.takeHeld.StationsLegal := by
  unfold State.takeHeld
  split
  · exact h
  · split
    · exact h.takeMessage _
    · exact h

theorem takeRequest_congr {take take' : State → Message → State} (same : ∀ u, take u m = take' u m) :
    takeRequest m take s = takeRequest m take' s := by
  simp only [takeRequest, same]

/-- A message of no inbound kind is answered UNKNOWN_KIND (R186). -/
theorem State.takeMessage_unknown (s : State) (unknown : ∀ k ∈ inboundKinds, m.kind ≠ k) :
    s.takeMessage m = s.takeUnknown m := by
  simp only [inboundKinds, List.mem_cons, List.not_mem_nil, or_false, forall_eq_or_imp, forall_eq] at unknown
  simp only [State.takeMessage, unknown, if_false]

/-- A command that carries a message takes it as the owner of its kind does, unless it stops with a fault (R186). -/
theorem exec_of_message {i : Instr} (carries : i.message = some m) (ht : exec i s = .next t) :
    takeRequest m State.takeMessage s = .next t := by
  cases i with
  | timeMark _ _ | nodeSet _ _ | resetNode _ _ | channelSet _ _ | channelStart _ _ | channelStop _ _ | channelHalt _ _
  | schedule _ _ | profileBind _ _ | profileUnbind _ _ | profileRevert _ _ | profileClear _ _ | tableSeek _ _
  | tablePut _ _ | tableGet _ _ | directoryGet _ _ | statusGet _ _ =>
    cases carries
    exact Eq.trans (takeRequest_congr fun _ => rfl) ht
  | unknownKind kind tag body =>
    cases carries
    have ht : execUnknownKind kind tag body s = .next t := ht
    unfold execUnknownKind at ht
    split at ht
    · cases ht
    · rename_i unknown
      rw [← ht]
      refine takeRequest_congr fun u => u.takeMessage_unknown fun k known => ?_
      rintro rfl
      exact unknown (.inr (List.contains_iff_mem.2 known))
  | _ => cases carries

end Messages

/-! ### Commands -/

/-- An event that is not due leaves the state; one that is due keeps what its effect `f` keeps. -/
theorem event_keeps {P : State → Prop} {s t : State} {p : State → Prop} [∀ u, Decidable (p u)] {f : State → State}
    (h : P s) (hf : p s → P (f s))
    (ht : Host.Outcome.next (φ := Fault) (ρ := Refusal) (s.unlessReset fun s => if p s then f s else s) = .next t) :
    P t := by
  rw [← Host.Outcome.next.inj ht]
  refine State.unlessReset_keeps (fun h => ?_) h
  split
  · rename_i due; exact hf due
  · exact h

/-- Every command keeps the law. -/
theorem exec_stationsLegal (c : Instr) {s t : State} (h : s.StationsLegal) (ht : exec c s = .next t) :
    t.StationsLegal := by
  have kept {f : State → State} (hf : s.StationsLegal → (f s).StationsLegal)
      (e : Host.Outcome.next (φ := Fault) (ρ := Refusal) (s.unlessReset f) = .next t) : t.StationsLegal :=
    Host.Outcome.next.inj e ▸ State.unlessReset_keeps hf h
  cases c with
  | timeMark _ _ | nodeSet _ _ | resetNode _ _ | channelSet _ _ | channelStart _ _ | channelStop _ _ | channelHalt _ _
  | schedule _ _ | profileBind _ _ | profileUnbind _ _ | profileRevert _ _ | profileClear _ _ | tableSeek _ _
  | tablePut _ _ | tableGet _ _ | directoryGet _ _ | statusGet _ _ | unknownKind _ _ _ =>
    exact stationsLegal_linkBlind.takeRequest (fun _ h => h.takeMessage _) h (exec_of_message rfl ht)
  | resetNAssert => cases ht; exact State.reset_stationsLegal.of fun h => h.congr rfl rfl rfl fun _ => ⟨rfl, rfl⟩
  | resetNRelease => cases ht; exact h.of fun h => h.congr rfl rfl rfl fun _ => ⟨rfl, rfl⟩
  | frameReceived frame => exact kept (fun h => h.of fun h => h.receiveFrame frame) ht
  | frameSend =>
    have sent (h : s.StationsLegal) : s.sendFrame.StationsLegal := h.of fun h => h.sendFrame
    exact kept (fun h => (sent h).takeHeld) ht
  | markTimeoutExpiry => exact event_keeps h (fun _ => h.of fun h => h.enterHoldover) ht
  | holdoverLimitExpiry => exact event_keeps h (fun _ => h.of fun h => h.loseSync) ht
  | putItem =>
    refine kept (fun h => h.of fun h => ?_) ht
    split
    · exact h.unlessFull (h.putOne _ _ _ _ _) _
    all_goals exact h
  | getItem =>
    refine kept (fun h => h.of fun h => ?_) ht
    split
    · exact h.unlessFull (h.getOne _ _ _ _ _) _
    all_goals exact h
  | inputLockLost ch =>
    have lost : (s.setChan ch { s.chan ch with lock := .lost }).StationsLegal := h.of fun h => h.setChan _ _
    rw [← Host.Outcome.next.inj ht]
    exact State.unlessReset_keeps (fun h => h.of fun h => h.abortLanes _ _ _) lost
  | inputLockLocked ch => cases ht; exact h.of fun h => h.setChan _ _
  | arming ch => exact event_keeps h (fun _ => h.of fun h => (h.runQueue laneIds ch).settle ch) ht
  | windowOpening l => exact event_keeps h (fun _ => h.of fun h => h.openWindow l) ht
  | searchEnd l => exact event_keeps h (fun due => h.of fun h => h.endSearch due.1) ht
  | sampleArrival ch re im => exact kept (fun h => h.of fun h => h.sampleArrival _ _) ht
  | endEvent l => exact event_keeps h (fun due => h.of fun h => h.endOfGrant (by rw [due.1]; decide)) ht
  | closeCompletion l => exact event_keeps h (fun due => h.of fun h => h.completeClose due.1) ht
  | sweepVisit => exact event_keeps h (fun _ => h.of fun h => h.visit rfl) ht
  | tick => exact kept (fun h => h.of fun h => h.setCounter _) ht

theorem step_stationsLegal {s t : State} (h : s.StationsLegal) (ht : step s = .next t) : t.StationsLegal := by
  unfold step at ht
  split at ht
  · cases ht; exact h
  · rename_i c rest _
    have popped : State.StationsLegal { s with pending := rest } :=
      h.of fun h => h.congr rfl rfl rfl fun _ => ⟨rfl, rfl⟩
    exact exec_stationsLegal c popped ht

/-! ### What the law says -/

/-- The directory names exactly the BOUND and STALE profiles, no key and no profile twice (R127). -/
theorem State.StationsLegal.directory_exact {s : State} (h : s.StationsLegal) :
    s.directory.length ≤ 384 ∧ (s.directory.map (·.key)).Nodup ∧ (s.directory.map (·.profile)).Nodup ∧
      ∀ p, (∃ e ∈ s.directory, e.profile = p) ↔ ((s.prof p).state = .bound ∨ (s.prof p).state = .stale) := by
  have listing := (State.stationsLegal_iff.1 h).2.listing
  exact ⟨listing.size, listing.nodup_keys, listing.nodup_profiles, fun p => listing.mem_iff.trans (h.keyed p)⟩

/-- A profile has at most one holder and at most one claim, never the same lane (R154). -/
theorem State.StationsLegal.roles_exclusive {s : State} (h : s.StationsLegal) (p : Fin 384) (l k : Fin 12) :
    ((s.lane l).role = .holder p → (s.lane k).role = .holder p → k = l) ∧
      ((s.lane l).role = .claim p → (s.lane k).role = .claim p → k = l) ∧
      ((s.prof p).holder = some l → (s.prof p).claim = some k → k ≠ l) := by
  refine ⟨fun hl hk => ?_, fun hl hk => ?_, fun held claimed => ?_⟩
  · exact Option.some.inj (((h.holder k p).1 hk).symm.trans ((h.holder l p).1 hl))
  · exact Option.some.inj (((h.claim k p).1 hk).symm.trans ((h.claim l p).1 hl))
  · rintro rfl
    have holds := (h.holder k p).2 held
    rw [(h.claim k p).2 claimed] at holds
    cases holds

/-- Settles O60: the law is kept operation by operation, one profile's roles at a time. It is taken apart into
`State.Stations`, which two passages through states that break the law still satisfy: the entry to CLOSING of a holder with
a claim waiting, before its judgement, and NODE SET before the profiles' alignment to a new age limit. -/
theorem stepsKeepTheStationsConsistent : Obligations.StepsKeepTheStationsConsistent := by
  unfold Obligations.StepsKeepTheStationsConsistent
  refine ⟨fun _ _ => step_stationsLegal, fun s h =>
    ⟨h.directory_exact, fun p => ?_, fun p l k => h.roles_exclusive p l k⟩⟩
  exact ⟨(h.profiles p).failCount, (h.profiles p).bound, (h.profiles p).stale⟩

end Sys2Proof.Machine
end

section
/-! Recentring (section 8.9): the dominant tap by the law of the search's peak, the shift of the bias and of the vector. -/

namespace Sys2Proof.Machine

/-! ### The dominant tap (R165) -/

/-- The squared magnitude of the tap numbered `o`, in the form in which the search's peak takes its powers. -/
def tapPower (v : CoefVector) (o : Int) : Nat := v[Fin.ofNat 24 o.toNat].toCx.sq

theorem tapPower_val (v : CoefVector) (k : Fin 24) : tapPower v (k.val : Int) = v[k].toCx.sq := by
  simp [tapPower]

/-- The dominant tap is sought as the search seeks its peak (R86): one tap after the other, a larger one in place of the
best so far. -/
theorem dominantFrom_eq_peakOf (v : CoefVector) (ks : List (Fin 24)) (best : Fin 24) :
    ((dominantFrom v ks best).val : Int) = peakOf (tapPower v) (ks.map fun k => (k.val : Int)) (best.val : Int) := by
  induction ks generalizing best with
  | nil => rfl
  | cons k ks ih =>
    rw [dominantFrom, ih, List.map_cons, peakOf, tapPower_val, tapPower_val]
    split <;> rfl

/-- The taps are sought in ascending order from tap 0, itself the first of them. -/
theorem dominantTap_earliestMax (v : CoefVector) :
    EarliestMax (tapPower v) ((0 :: tapIds).map fun k => (k.val : Int)) ((dominantTap v).val : Int) := by
  have ascending : ((0 :: tapIds).map fun k => (k.val : Int)).Pairwise (· ≤ ·) := by decide
  rw [dominantTap, dominantFrom_eq_peakOf]
  exact peakOf_earliestMax (tapPower v) _ _ ascending

theorem val_mem_taps (k : Fin 24) : (k.val : Int) ∈ (0 :: tapIds).map fun k => (k.val : Int) :=
  List.mem_map_of_mem (List.mem_cons_of_mem _ (List.mem_finRange k))

theorem sq_le_dominantTap (v : CoefVector) (k : Fin 24) : v[k].toCx.sq ≤ v[dominantTap v].toCx.sq := by
  simpa only [tapPower_val] using (dominantTap_earliestMax v).largest _ (val_mem_taps k)

theorem dominantTap_le_of_tie {v : CoefVector} {k : Fin 24} (tie : v[k].toCx.sq = v[dominantTap v].toCx.sq) :
    dominantTap v ≤ k := by
  have earliest := (dominantTap_earliestMax v).earliest _ (val_mem_taps k) (by rw [tapPower_val, tapPower_val, tie])
  exact Int.ofNat_le.1 earliest

/-! ### The new bias and the applied shift (R165) -/

/-- Both biases lie in −6 .. 6, so they differ by at most 12. -/
theorem newBias_sub_mem {bias : Int} (low : -6 ≤ bias) (high : bias ≤ 6) (shift : Int) :
    -12 ≤ newBias bias shift - bias ∧ newBias bias shift - bias ≤ 12 := by
  have within : -6 ≤ newBias bias shift ∧ newBias bias shift ≤ 6 := clampInt_mem (by decide) (bias + shift)
  omega

theorem newBias_of_mem {bias shift : Int} (low : -6 ≤ bias + shift) (high : bias + shift ≤ 6) :
    newBias bias shift = bias + shift := by
  rw [newBias, clampInt, min_eq_right high, max_eq_right low]

/-! ### The shifted vector (R166) -/

theorem shiftVector_of_source (v : CoefVector) {a : Int} {k j : Fin 24} (source : (j.val : Int) = (k.val : Int) + a) :
    (shiftVector v a)[k] = v[j] := by
  have inside : 0 ≤ (k.val : Int) + a ∧ (k.val : Int) + a < 24 := by omega
  have number : ((k.val : Int) + a).toNat = j.val := by omega
  simp [shiftVector, inside, number]

theorem shiftVector_of_no_source (v : CoefVector) {a : Int} {k : Fin 24}
    (outside : (k.val : Int) + a < 0 ∨ 24 ≤ (k.val : Int) + a) : (shiftVector v a)[k] = ⟨0, 0⟩ := by
  have noSource : ¬(0 ≤ (k.val : Int) + a ∧ (k.val : Int) + a < 24) := by omega
  simp [shiftVector, noSource, Coef.zero]

/-- Every tap is its own source. -/
theorem shiftVector_zero (v : CoefVector) : shiftVector v 0 = v :=
  Vector.ext fun i hi => shiftVector_of_source v (k := ⟨i, hi⟩) (j := ⟨i, hi⟩) (Int.add_zero _).symm

/-- Settles O52: the dominant tap by the law of the search's peak, the applied shift by the range of the new bias, and the
shifted vector tap by tap. -/
theorem recentringMovesTheDominantTap : Obligations.RecentringMovesTheDominantTap := by
  unfold Obligations.RecentringMovesTheDominantTap
  intro v b low high
  obtain ⟨atLeast, atMost⟩ := newBias_sub_mem low high (recentreOf v b).shift
  refine ⟨⟨dominantTap v, rfl, sq_le_dominantTap v, fun k => dominantTap_le_of_tie, rfl⟩, rfl, atLeast, atMost,
    fun unclampedLow unclampedHigh => ?_, fun a k j => shiftVector_of_source v, fun a k => shiftVector_of_no_source v,
    shiftVector_zero v⟩
  calc (recentreOf v b).applied
      = newBias b (recentreOf v b).shift - b := rfl
    _ = b + (recentreOf v b).shift - b := by rw [newBias_of_mem unclampedLow unclampedHigh]
    _ = (recentreOf v b).shift := add_sub_cancel_left b _

end Sys2Proof.Machine
end

section
/-! What a command can do, said once: every command is a sequence of the elementary changes below, so a law that each of
them keeps is kept by every step. -/

namespace Sys2Proof.Machine

/-! ### Elementary changes -/

/-- One elementary change that a command makes. A channel changes its classes, a pattern changes, only by an item of the PUT
under way; items begin to wait only with values that fit them. -/
inductive Change : State → State → Prop
  | pin (s : State) (b : Bool) : Change s { s with resetHeld := b }
  | powerOn (s : State) : Change s { State.reset with
      resetHeld := true, channels := s.channels.map fun c => { Channel.reset with lock := c.lock }, pending := s.pending }
  | timebase (s : State) (b : Timebase) : Change s (s.setTimebase b)
  | lanes (s : State) (v : Vector Lane 12) : Change s { s with lanes := v }
  | profiles (s : State) (v : Vector Profile 384) : Change s { s with profiles := v }
  | channels (s : State) (v : Vector Channel 6) (classes : ∀ ch : Fin 6, v[ch].classes = (s.chan ch).classes) :
      Change s { s with channels := v }
  | directory (s : State) (d : List DirEntry) : Change s (s.setDirectory d)
  | sweep (s : State) (w : Sweep) : Change s (s.setSweep w)
  | record (s : State) (r : BurstRecord) : Change s (s.emitRecord r)
  | notice (s : State) (e : NoticeEvent) : Change s (s.notify e)
  | response (s : State) (m : Message) (st : Status) (fs : List Byte) : Change s (s.respond m st fs)
  | frame (s : State) : Change s s.sendFrame
  | link (s : State) (n : NodeLink) (waiting : ∀ t, n.transfer = some t → ∀ i ∈ t.items,
      i.Fits ∨ ∃ t', s.link.transfer = some t' ∧ i ∈ t'.items) : Change s (s.setLink n)
  | item {s t : State} {p : Transfer} {i : PutItem} (a : AccessPointer) {b : Bool} (underWay : s.link.transfer = some p)
      (waits : i ∈ p.items) (written : s.writeItem a i = .taken t b) : Change s t

/-- A sequence of elementary changes. -/
def Changes (s t : State) : Prop := Relation.ReflTransGen Change s t

variable {s t u : State}

theorem Changes.refl (s : State) : Changes s s := Relation.ReflTransGen.refl

theorem Changes.trans (h : Changes s t) (k : Changes t u) : Changes s u := Relation.ReflTransGen.trans h k

theorem Changes.tail (h : Changes s t) (k : Change t u) : Changes s u := Relation.ReflTransGen.tail h k

/-- A law that every elementary change keeps. -/
theorem Changes.keeps {P : State → Prop} (hP : ∀ {s t}, Change s t → P s → P t) (h : Changes s t) (hs : P s) : P t := by
  induction h with
  | refl => exact hs
  | tail _ k ih => exact hP k ih

section Extend

variable (h : Changes s t)
include h

theorem Changes.setTimebase (b : Timebase) : Changes s (t.setTimebase b) := h.tail (.timebase t b)
theorem Changes.setSync (x : SyncState) : Changes s (t.setSync x) := h.setTimebase _
theorem Changes.setLastMark (x : Tick) : Changes s (t.setLastMark x) := h.setTimebase _
theorem Changes.setProf (p : Fin 384) (x : Profile) : Changes s (t.setProf p x) := h.tail (.profiles t _)
theorem Changes.setDirectory (d : List DirEntry) : Changes s (t.setDirectory d) := h.tail (.directory t d)
theorem Changes.setSweep (w : Sweep) : Changes s (t.setSweep w) := h.tail (.sweep t w)
theorem Changes.emitRecord (r : BurstRecord) : Changes s (t.emitRecord r) := h.tail (.record t r)
theorem Changes.notify (e : NoticeEvent) : Changes s (t.notify e) := h.tail (.notice t e)
theorem Changes.respond (m : Message) (st : Status) (fs : List Byte) : Changes s (t.respond m st fs) :=
  h.tail (.response t m st fs)

theorem Changes.setLink {n : NodeLink} (waiting : ∀ p, n.transfer = some p → ∀ i ∈ p.items,
    i.Fits ∨ ∃ p', t.link.transfer = some p' ∧ i ∈ p'.items) : Changes s (t.setLink n) := h.tail (.link t n waiting)

/-- The link's own bookkeeping leaves a PUT or GET under way as it is. -/
theorem Changes.setLink_same {n : NodeLink} (same : n.transfer = t.link.transfer) : Changes s (t.setLink n) :=
  h.setLink fun p hp _ hi => .inr ⟨p, same ▸ hp, hi⟩

theorem Changes.setTransfer_none : Changes s (t.setTransfer none) := h.setLink nofun

theorem Changes.setChan {ch : Fin 6} {c : Channel} (classes : c.classes = (t.chan ch).classes) :
    Changes s (t.setChan ch c) := by
  refine h.tail (.channels t (t.channels.set ch c) fun k => ?_)
  have read := t.setChan_chan ch c k
  rw [State.chan, State.setChan_channels] at read
  rw [read]
  split
  · rename_i e; subst e; exact classes
  · rfl

theorem Changes.setQueue (ch : Fin 6) (q : List QueuedGrant) : Changes s (t.setQueue ch q) := h.setChan rfl

theorem Changes.setChanState (ch : Fin 6) (x : ChannelState) : Changes s (t.setChanState ch x) := h.setChan rfl

/-- Every queued grant of every channel changed alike. -/
theorem Changes.mapQueues (f : QueuedGrant → QueuedGrant) :
    Changes s { t with channels := t.channels.map fun c => c.mapQueue f } :=
  h.tail (.channels t _ fun ch => by simp [State.chan, Channel.mapQueue])

/-- A change of the counter notes ticks in the queues, the lanes and the sweep (R2). -/
theorem Changes.setCounter (c : Tick) : Changes s (t.setCounter c) :=
  (((h.setTimebase { t.timebase with counter := c }).mapQueues (·.noteArm c)).tail
    (.lanes _ (t.lanes.map fun x : Lane => x.noteTicks c))).setSweep (t.sweep.noteVisit c)

theorem Changes.stepCounter (c : Tick) : Changes s (t.stepCounter c) := (h.setCounter c).mapQueues (·.judgeArm c)

/-- The reception makes elementary changes alone. -/
theorem Changes.work {A : State → Act → Prop} (k : Work A t u) : Changes s u := by
  induction k with
  | refl => exact h
  | step a _ _ ih =>
    cases a with
    | lane l x => exact ih.tail (.lanes _ _)
    | prof p x => exact ih.setProf p x
    | record r => exact ih.emitRecord r
    | notice e => exact ih.notify e
    | queue ch q => exact ih.setQueue ch q
    | ready ch => exact ih.setChanState ch .ready

end Extend

/-- A fold of changes. -/
theorem Changes.foldl {α : Type} {f : State → α → State} (hf : ∀ s a, Changes s (f s a)) (l : List α) (s : State) :
    Changes s (l.foldl f s) :=
  List.foldlRecOn l f (Changes.refl s) fun _ h a _ => h.trans (hf _ a)

variable (s)

/-! ### The timebase (chapter 1) -/

theorem State.resync_changes : Changes s s.resync := by
  unfold State.resync
  split
  · exact ((Changes.refl s).setSync .synced).notify _
  all_goals exact .refl s

theorem State.armAll_changes (pool : List (Fin 12)) : Changes s (s.armAll pool) :=
  Changes.foldl (fun u ch => by
    split
    · exact ((Changes.refl u).work (u.runQueue_work (q := False) pool ch nofun)).work
        (State.settle_work (q := False) _ ch)
    · exact .refl u) channelIds s

theorem State.abortLanes_changes (c : AbortCause) (b : Bool) (ls : List (Fin 12)) : Changes s (s.abortLanes c b ls) :=
  (Changes.refl s).work (s.abortLanes_work (q := False) c b ls nofun)

/-- A mark beyond the step tolerance (R7, R8). -/
theorem State.stepMark_changes (t : Tick) (d : Int) : Changes s (s.stepMark t d) := by
  have aborted := ((Changes.refl s).stepCounter t).trans (State.abortLanes_changes _ .timebaseStep (decide (0 < d))
    (laneIds.filter fun l => ((s.stepCounter t).lane l).state != .free))
  unfold State.stepMark
  dsimp only
  split
  · exact (((aborted.trans (State.armAll_changes _ _)).notify _).setLastMark t).trans (State.resync_changes _)
  · exact ((aborted.notify _).setLastMark t).trans (State.resync_changes _)

/-- A time mark that is taken (R5, R6, R7). -/
theorem State.takeMark_changes (t : Tick) : Changes s (s.takeMark t) := by
  unfold State.takeMark
  split
  · exact ((((Changes.refl s).setCounter t).setSync .synced).setLastMark t).notify _
  all_goals
    dsimp only
    split
    · exact (((Changes.refl s).setCounter _).setLastMark _).trans (State.resync_changes _)
    · exact s.stepMark_changes t _

theorem State.enterHoldover_changes : Changes s s.enterHoldover :=
  (((Changes.refl s).setTimebase _).tail (.lanes _ _)).notify _

theorem State.haltChannel_changes (ch : Fin 6) (c : AbortCause) : Changes s (s.haltChannel ch c) :=
  (((Changes.refl s).setQueue ch []).trans (State.abortLanes_changes _ _ _ _)).setChanState ch .ready

theorem State.loseSync_changes : Changes s s.loseSync := by
  rw [State.loseSync_eq]
  refine (((Changes.refl s).setSync .unsynced).notify _).trans (Changes.foldl (fun u ch => ?_) channelIds _)
  unfold State.haltIfActive
  split
  · exact u.haltChannel_changes ch .syncLost
  · exact .refl u

theorem State.expireNow_changes : Changes s s.expireNow := by
  unfold State.expireNow
  split
  · exact s.enterHoldover_changes
  · split
    · exact s.loseSync_changes
    · exact .refl s

/-! ### Channels and intake (chapters 2 and 3) -/

variable (m : Message)

theorem State.channelSet_changes (c : ChannelSettings) (ch : Fin 6) : Changes s (s.channelSet m c ch) := by
  unfold State.channelSet
  split
  · exact (Changes.refl s).respond _ _ _
  · refine Changes.respond ?_ _ _ _
    exact (Changes.refl s).setChan rfl

theorem State.channelStart_changes (ch : Fin 6) : Changes s (s.channelStart m ch) := by
  unfold State.channelStart
  split
  · exact (Changes.refl s).respond _ _ _
  · exact (Changes.refl s).respond _ _ _
  · exact (Changes.refl s).respond _ _ _
  · split
    · exact (Changes.refl s).respond _ _ _
    · exact ((Changes.refl s).setChanState ch .running).respond _ _ _

theorem State.channelStop_changes (ch : Fin 6) : Changes s (s.channelStop m ch) := by
  unfold State.channelStop
  split
  · exact (Changes.refl s).respond _ _ _
  · exact (Changes.refl s).respond _ _ _
  · exact (Changes.refl s).respond _ _ _
  · exact (((Changes.refl s).setChanState ch .stopping).work (State.settle_work (q := False) _ ch)).respond _ _ _

theorem State.channelHalt_changes (ch : Fin 6) : Changes s (s.channelHalt m ch) := by
  unfold State.channelHalt
  split
  · exact (Changes.refl s).respond _ _ _
  · exact (Changes.refl s).respond _ _ _
  all_goals exact (s.haltChannel_changes ch .channelHalt).respond _ _ _

theorem intake_changes (ch : Fin 6) :
    ∀ (gs : List Grant) (s : State) (n : Nat) (b : Bool), Changes s (intake ch gs s n b).1
  | [], s, _, _ => .refl s
  | g :: gs, s, n, b => by
    unfold intake
    split
    · exact .refl s
    · exact ((Changes.refl s).setQueue ch _).trans (intake_changes ch gs _ _ _)

theorem State.schedule_changes (gs : List Grant) (ch : Fin 6) : Changes s (s.schedule m gs ch) := by
  unfold State.schedule
  split
  · exact (intake_changes ch gs s 0 false).respond _ _ _
  · exact (Changes.refl s).respond _ _ _

/-! ### Stations (chapter 7) -/

theorem State.bind_changes (r : BindRequest) : Changes s (s.bind m r) := by
  unfold State.bind
  split
  · split
    · dsimp only
      split
      · exact (Changes.refl s).respond _ _ _
      · split
        · exact (Changes.refl s).respond _ _ _
        · split
          · exact (Changes.refl s).respond _ _ _
          · exact (((Changes.refl s).setProf _ _).setDirectory _).respond _ _ _
    · exact (Changes.refl s).respond _ _ _
  · exact (Changes.refl s).respond _ _ _

theorem State.unbind_changes (station ch : Nat) : Changes s (s.unbind m station ch) := by
  unfold State.unbind
  split
  · dsimp only
    split
    · exact (Changes.refl s).respond _ _ _
    · exact (((Changes.refl s).setProf _ _).setDirectory _).respond _ _ _
  · exact (Changes.refl s).respond _ _ _

theorem State.onBoundProfile_changes (p : Nat) (f : Profile → Profile) : Changes s (s.onBoundProfile m p f) := by
  unfold State.onBoundProfile
  split
  · dsimp only
    split
    · exact (Changes.refl s).respond _ _ _
    · exact (Changes.refl s).respond _ _ _
    all_goals exact ((Changes.refl s).setProf _ _).respond _ _ _
  · exact (Changes.refl s).respond _ _ _

theorem State.visitProfile_changes (p : Fin 384) : Changes s (s.visitProfile p) := by
  unfold State.visitProfile
  dsimp only
  split
  · split
    · exact ((Changes.refl s).setProf _ _).notify _
    · exact (Changes.refl s).setProf _ _
  · exact .refl s

theorem State.alignProfile_changes (p : Fin 384) : Changes s (s.alignProfile p) := by
  unfold State.alignProfile
  dsimp only
  split
  · split
    · exact ((Changes.refl s).setProf _ _).notify _
    · exact .refl s
  · exact (Changes.refl s).setProf _ _
  all_goals exact .refl s

/-! ### Tables (section 10.3) -/

theorem State.seek_changes (t : TableId) (ch i : Nat) : Changes s (s.seek m t ch i) := by
  unfold State.seek
  split
  · exact (Changes.refl s).respond _ _ _
  · split
    · exact (Changes.refl s).respond _ _ _
    · refine Changes.respond ?_ _ _ _
      exact (Changes.refl s).setLink_same rfl

/-- What a reader of items reads fits the items' fields (R30, R186). -/
theorem readItem_fits {t : TableId} {bytes : List Byte} {i : PutItem} (h : readItem t bytes = some i) : i.Fits := by
  have coefficient : ∀ {l : List Byte}, readCoefItem l = some i → i.Fits := fun h => by
    unfold readCoefItem at h
    split at h
    · cases h; trivial
    · cases h
  cases t with
  | classes =>
    simp only [readItem, readClassItem] at h
    split at h
    · split at h
      · split at h
        · cases h
          rename_i f0 f1 f2 _ _ _ _ _ _ _
          have floor : beValue [f0, f1, f2] < 2 ^ 24 := by
            simp only [beValue, List.foldl_cons, List.foldl_nil]
            omega
          exact ⟨BitVec.isLt _, BitVec.isLt _, BitVec.isLt _, BitVec.isLt _, BitVec.isLt _, BitVec.isLt _, BitVec.isLt _,
            floor⟩
        · cases h
      · cases h
    · cases h
  | preambles =>
    simp only [readItem, readPatternItem] at h
    split at h
    · rename_i len bytes
      split at h
      · rename_i form
        obtain ⟨bits, length, -⟩ := form
        cases h
        have quadrants : (bytes.flatMap quadrantsOf).length = 64 := by
          simp [List.length_flatMap, quadrantsOf, bits]
        simp only [PutItem.Fits, List.length_take, quadrants]
        omega
      · cases h
    · cases h
  | profileCurrent => exact coefficient h
  | profilePrevious => exact coefficient h
  | profileMeta =>
    simp only [readItem, readMetaItem] at h
    split at h
    · cases h
      rename_i c0 c1 b rl
      have offset := BitVec.le_toInt (c0 ++ c1)
      have offset' := BitVec.toInt_lt (x := c0 ++ c1)
      have bias := BitVec.le_toInt b
      have bias' := BitVec.toInt_lt (x := b)
      exact ⟨offset, offset', bias, bias', BitVec.isLt _⟩
    · cases h

theorem readItems_fits {t : TableId} : ∀ {n : Nat} {bytes : List Byte} {items : List PutItem},
    readItems t n bytes = some items → ∀ i ∈ items, i.Fits
  | 0, bytes, items, h, i, hi => by
    cases bytes with
    | nil => cases h; cases hi
    | cons b bs => cases h
  | n + 1, bytes, items, h, i, hi => by
    simp only [readItems] at h
    split at h
    · rename_i first rest hfirst hrest
      cases h
      rcases List.mem_cons.1 hi with rfl | hi
      · exact readItem_fits hfirst
      · exact readItems_fits hrest i hi
    · cases h

theorem readTablePut_fits {t : TableId} {body : List Byte} {items : List PutItem} (h : readTablePut t body = some items) :
    ∀ i ∈ items, i.Fits := by
  unfold readTablePut at h
  split at h
  · split at h
    · exact readItems_fits h
    · cases h
  · cases h

theorem State.endPut_changes (tag : Byte) (st : Status) (n : Nat) : Changes s (s.endPut tag st n) :=
  (Changes.refl s).setTransfer_none.respond _ _ _

theorem State.put_changes (tag : Byte) {items : List PutItem} (fit : ∀ i ∈ items, i.Fits) :
    Changes s (s.put tag items) := by
  unfold State.put
  split
  · exact s.endPut_changes _ _ _
  · refine (Changes.refl s).setLink fun p hp i hi => .inl ?_
    cases hp
    exact fit i hi

variable {s} in
/-- An item leaves the link, the output and the waiting commands as they stand. -/
theorem State.writeItem_aside {a : AccessPointer} {i : PutItem} {b : Bool} (h : s.writeItem a i = .taken t b) :
    t.link = s.link ∧ t.output = s.output ∧ t.pending = s.pending := by
  cases i with
  | classEntry e =>
    simp only [State.writeItem, State.writeClass] at h
    split at h
    · cases h
    · cases h; exact ⟨rfl, rfl, rfl⟩
  | pattern qs =>
    simp only [State.writeItem, State.writePattern] at h
    split at h
    · cases h
    · cases h; exact ⟨rfl, rfl, rfl⟩
  | coefficient c => cases h; exact ⟨rfl, rfl, rfl⟩
  | profileFields c b rl => cases h; exact ⟨rfl, rfl, rfl⟩

variable {s} in
/-- The next item of the PUT under way (R190). -/
theorem State.putOne_changes {tag : Byte} {i : PutItem} {left : List PutItem} {n : Nat} {b : Bool}
    (underWay : s.link.transfer = some (.put tag (i :: left) n b)) : Changes s (s.putOne tag i left n b) := by
  unfold State.putOne
  split
  · exact s.endPut_changes _ _ _
  · rename_i t c written
    obtain ⟨link, -, -⟩ := State.writeItem_aside written
    have moved : Changes s (t.setLink { t.link with pointer := t.link.pointer.advance }) :=
      ((Changes.refl s).tail (.item _ underWay List.mem_cons_self written)).setLink_same rfl
    dsimp only
    split
    · exact moved.trans (State.endPut_changes _ _ _ _)
    · split
      · exact moved.trans (State.endPut_changes _ _ _ _)
      · refine moved.setLink fun p hp i hi => .inr ⟨_, link ▸ underWay, ?_⟩
        cases hp
        exact List.mem_cons_of_mem _ hi

theorem State.endGet_changes (tag : Byte) (a : AccessPointer) (st : Status) (n : Nat) (got : List Byte) :
    Changes s (s.endGet tag a st n got) := (Changes.refl s).setTransfer_none.respond _ _ _

variable {s} in
/-- A GET has no items that wait. -/
theorem Changes.setTransfer_get (h : Changes s t) (tag : Byte) (a : AccessPointer) (left n : Nat) (got : List Byte) :
    Changes s (t.setTransfer (some (.get tag a left n got))) :=
  h.setLink fun p hp i hi => by cases hp; cases hi

theorem State.get_changes (tag : Byte) (n : Nat) : Changes s (s.get tag n) := by
  unfold State.get
  split
  · exact s.endGet_changes _ _ _ _ _
  · exact (Changes.refl s).setTransfer_get _ _ _ _ _

theorem State.getOne_changes (tag : Byte) (a : AccessPointer) (left n : Nat) (got : List Byte) :
    Changes s (s.getOne tag a left n got) := by
  have moved : Changes s (s.setLink { s.link with pointer := s.link.pointer.advance }) :=
    (Changes.refl s).setLink_same rfl
  unfold State.getOne
  dsimp only
  split
  · exact moved.trans (State.endGet_changes _ _ _ _ _ _)
  · split
    · exact moved.trans (State.endGet_changes _ _ _ _ _ _)
    · exact moved.setTransfer_get _ _ _ _ _

variable {s} in
theorem Changes.unlessFull (h : Changes s t) (room : Nat) : Changes s (s.unlessFull t room) := by
  unfold State.unlessFull
  split
  · exact h
  · exact .refl s

/-! ### The node (sections 1.6, 1.7 and 10.4) -/

theorem State.nodeSet_changes (n : NodeSettings) : Changes s (s.nodeSet m n) := by
  have expired : Changes s (((s.applySettings (clampSettings n)).respond m
      (clampStatus (decide (clampSettings n ≠ n))) []).expireNow) :=
    ((((Changes.refl s).setTimebase _).setSweep _).respond _ _ _).trans (State.expireNow_changes _)
  unfold State.nodeSet
  dsimp only
  refine Changes.setSweep ?_ _
  split
  · exact expired.trans (Changes.foldl State.alignProfile_changes profileIds _)
  · exact expired

theorem State.nodeReset_changes : Changes s s.nodeReset := by
  refine ((((Changes.refl s).setSync .unsynced).tail (.profiles _ (s.profiles.map Profile.atNodeReset))).tail
    (.lanes _ (Vector.replicate 12 Lane.idle))).tail (.channels _ (s.channels.map Channel.atNodeReset) fun ch => ?_)
  simp [State.chan, Channel.atNodeReset, State.setSync]

theorem State.receiveFrame_changes (bytes : List Byte) : Changes s (s.receiveFrame bytes) := by
  unfold State.receiveFrame
  split
  · exact .refl s
  · split
    · exact (Changes.refl s).setLink_same rfl
    · exact .refl s

/-! ### Messages taken (R186) -/

variable {s m}

/-- A message that is passed on, answered for its form, held or left waiting. -/
theorem State.passOn_changes {α : Type} {form : Option α} {bad : Status} {room : Nat} {act : State → α → State}
    (hact : ∀ x, form = some x → ∀ u, Changes u (act u x)) : Changes s (s.passOn m form bad room act) := by
  have taken : Changes s (s.setLink s.link.dropHead) := (Changes.refl s).setLink_same rfl
  have held : Changes s s.hold := (Changes.refl s).setLink_same rfl
  unfold State.passOn
  split
  · exact .refl s
  · split
    · split
      · exact taken.respond _ _ _
      · exact held
    · split
      · exact taken.trans (hact _ rfl _)
      · exact held

theorem State.onChannel_changes {n : Nat} {fs : List Byte} {act : State → Fin 6 → State}
    (hact : ∀ ch, Changes s (act s ch)) : Changes s (s.onChannel m n fs act) := by
  unfold State.onChannel
  split
  · exact hact _
  · exact (Changes.refl s).respond _ _ _

theorem Changes.ite {p : Prop} [Decidable p] (ht : Changes s t) (hu : Changes s u) : Changes s (if p then t else u) := by
  split
  · exact ht
  · exact hu

/-- Whatever kind a message has, its owner makes elementary changes alone. -/
theorem State.takeMessage_changes (s : State) (m : Message) : Changes s (s.takeMessage m) :=
  (State.passOn_changes fun x _ u => u.takeMark_changes x).ite <|
  (State.passOn_changes fun x _ u => u.nodeSet_changes m x).ite <|
  (State.passOn_changes fun _ _ u => ((Changes.refl u).respond _ _ _).trans (State.nodeReset_changes _)).ite <|
  (State.passOn_changes fun c _ u => State.onChannel_changes fun ch => u.channelSet_changes m c ch).ite <|
  (State.passOn_changes fun _ _ u => State.onChannel_changes fun ch => u.channelStart_changes m ch).ite <|
  (State.passOn_changes fun _ _ u => State.onChannel_changes fun ch => u.channelStop_changes m ch).ite <|
  (State.passOn_changes fun _ _ u => State.onChannel_changes fun ch => u.channelHalt_changes m ch).ite <|
  (State.passOn_changes fun r _ u => State.onChannel_changes fun ch => u.schedule_changes m r.2 ch).ite <|
  (State.passOn_changes fun r _ u => u.bind_changes m r).ite <|
  (State.passOn_changes fun r _ u => u.unbind_changes m r.1 r.2).ite <|
  (State.passOn_changes fun p _ u => u.onBoundProfile_changes m p _).ite <|
  (State.passOn_changes fun p _ u => u.onBoundProfile_changes m p _).ite <|
  (State.passOn_changes fun _ _ u => u.seek_changes m _ _ _).ite <|
  (State.passOn_changes fun _ form u => u.put_changes _ (readTablePut_fits form)).ite <|
  (State.passOn_changes fun _ _ u => u.get_changes _ _).ite <|
  (State.passOn_changes fun _ _ u => (Changes.refl u).respond _ _ _).ite <|
  (State.passOn_changes fun _ _ u => (Changes.refl u).respond _ _ _).ite <|
  State.passOn_changes fun _ _ u => .refl u

/-- The request held for room, passed on within FRAME_SEND (R179). -/
theorem State.takeHeld_changes (s : State) : Changes s s.takeHeld := by
  unfold State.takeHeld
  split
  · exact .refl s
  · exact (s.takeMessage_changes _).ite (.refl s)

theorem takeRequest_changes (ht : takeRequest m State.takeMessage s = .next t) : Changes s t := by
  unfold takeRequest at ht
  split at ht
  · rw [← Host.Outcome.next.inj ht]
    unfold State.unlessReset
    exact (Changes.refl s).ite
      (((Changes.refl s).setLink_same (s.link.offer_transfer m)).trans (State.takeMessage_changes _ m))
  · cases ht

/-! ### Commands -/

/-- Every command that completes is a sequence of elementary changes. -/
theorem exec_changes (c : Instr) (ht : exec c s = .next t) : Changes s t := by
  have event {f : State → State} (e : Host.Outcome.next (φ := Fault) (ρ := Refusal) (s.unlessReset f) = .next t)
      (hf : Changes s (f s)) : Changes s t := by
    rw [← Host.Outcome.next.inj e]
    exact (Changes.refl s).ite hf
  have work {u : State} (k : Work (Receiving False) s u) : Changes s u := (Changes.refl s).work k
  cases c with
  | timeMark _ _ | nodeSet _ _ | resetNode _ _ | channelSet _ _ | channelStart _ _ | channelStop _ _ | channelHalt _ _
  | schedule _ _ | profileBind _ _ | profileUnbind _ _ | profileRevert _ _ | profileClear _ _ | tableSeek _ _
  | tablePut _ _ | tableGet _ _ | directoryGet _ _ | statusGet _ _ | unknownKind _ _ _ =>
    exact takeRequest_changes (exec_of_message rfl ht)
  | resetNAssert => cases ht; exact (Changes.refl s).tail (.powerOn s)
  | resetNRelease => cases ht; exact (Changes.refl s).tail (.pin s false)
  | frameReceived frame => exact event ht (s.receiveFrame_changes frame)
  | frameSend => exact event ht (((Changes.refl s).tail (.frame s)).trans (State.takeHeld_changes _))
  | markTimeoutExpiry => exact event ht (s.enterHoldover_changes.ite (.refl s))
  | holdoverLimitExpiry => exact event ht (s.loseSync_changes.ite (.refl s))
  | putItem =>
    refine event ht ?_
    split
    · rename_i underWay; exact (State.putOne_changes underWay).unlessFull _
    all_goals exact .refl s
  | getItem =>
    refine event ht ?_
    split
    · exact (s.getOne_changes _ _ _ _ _).unlessFull _
    all_goals exact .refl s
  | inputLockLost ch =>
    have lost : Changes s (s.setChan ch { s.chan ch with lock := .lost }) := (Changes.refl s).setChan rfl
    rw [← Host.Outcome.next.inj ht]
    exact lost.ite (lost.trans (State.abortLanes_changes _ _ _ _))
  | inputLockLocked ch => cases ht; exact (Changes.refl s).setChan rfl
  | arming ch =>
    exact event ht (((work (s.runQueue_work laneIds ch nofun)).work (State.settle_work (q := False) _ ch)).ite (.refl s))
  | windowOpening l =>
    refine event ht ?_
    split
    · rename_i due; exact work (s.openWindow_work l (by rw [due.1]; decide) nofun)
    · exact .refl s
  | searchEnd l =>
    refine event ht ?_
    split
    · rename_i due; exact work (s.endSearch_work l (by rw [due.1]; decide) nofun)
    · exact .refl s
  | sampleArrival ch re im => exact event ht (work (Work.foldl _ (fun u l hu => u.laneSample_work l _ hu) _ s nofun))
  | endEvent l =>
    refine event ht ?_
    split
    · rename_i due; exact work (s.endOfGrant_work l (by rw [due.1]; decide) nofun)
    · exact .refl s
  | closeCompletion l => exact event ht ((work (s.completeClose_work l)).ite (.refl s))
  | sweepVisit => exact event ht (((s.visitProfile_changes _).setSweep _).ite (.refl s))
  | tick => exact event ht ((Changes.refl s).setCounter _)

/-- A law that the elementary changes keep, and that does not speak of the waiting commands, is kept by every step. -/
theorem step_keeps {P : State → Prop} (hP : ∀ {s t}, Change s t → P s → P t)
    (pending : ∀ (s : State) (cs : List Instr), P s → P { s with pending := cs }) (ht : step s = .next t) (hs : P s) :
    P t := by
  unfold step at ht
  split at ht
  · cases ht; exact hs
  · exact (exec_changes _ ht).keeps hP (pending s _ hs)

end Sys2Proof.Machine
end

section
/-! The laws of the output queue, of the tables and of the waiting commands: each is kept by every elementary change, and so
by every step. -/

namespace Sys2Proof.Machine

variable {s t : State}

/-! ### The waiting commands (log entry 24) -/

theorem Change.pending (h : Change s t) : t.pending = s.pending := by
  cases h with
  | record r => exact State.emitRecord_pending _ _
  | notice e => exact State.notify_pending _ _
  | response m st fs => exact State.respond_pending _ _ _ _
  | frame =>
    unfold State.sendFrame
    split
    · rfl
    · split <;> rfl
  | item a _ _ written => exact (State.writeItem_aside written).2.2
  | _ => rfl

/-- Settles O2: no elementary change touches the waiting commands. -/
theorem commandsLeaveTheWaitingOnes : Obligations.CommandsLeaveTheWaitingOnes := by
  unfold Obligations.CommandsLeaveTheWaitingOnes
  intro c s t ht
  exact (exec_changes c ht).keeps (P := fun u => u.pending = s.pending) (fun h e => h.pending.trans e) rfl

/-! ### The output queue (R178, R179, R181) -/

/-- A queue that has lost items from its head keeps within the limits. -/
theorem OutputQueue.Bounded.of_suffix {o o' : OutputQueue} (h : o.Bounded) (left : o'.items <:+ o.items) : o'.Bounded := by
  obtain ⟨gone, e⟩ := left
  obtain ⟨fill, notices⟩ := h
  simp only [OutputQueue.fill, OutputQueue.notices, ← e, List.map_append, List.sum_append, List.countP_append]
    at fill notices
  constructor
  · simp only [OutputQueue.fill]; omega
  · simp only [OutputQueue.notices]; omega

theorem OutputQueue.reset_bounded : OutputQueue.reset.Bounded := by
  constructor <;> decide

theorem Change.bounded (h : Change s t) (hs : s.output.Bounded) : t.output.Bounded := by
  cases h with
  | powerOn => exact OutputQueue.reset_bounded
  | record r => rw [State.emitRecord, State.setOutput_output]; exact s.output.placeRecord_bounded _ hs
  | notice e => rw [State.notify, State.setOutput_output]; exact s.output.placeNotice_bounded _ _ hs
  | response m st fs => rw [State.respond, State.setOutput_output]; exact s.output.placeResponse_bounded _ hs
  | frame =>
    unfold State.sendFrame
    split
    · exact hs
    · split
      · exact hs.of_suffix (dropSent_spec _ _ _).2.1
      · exact hs
  | item a _ _ written => rw [(State.writeItem_aside written).2.1]; exact hs
  | _ => exact hs

/-- Settles O57: records, responses and notices are placed within the limits, and a frame only takes items away. -/
theorem stepsKeepTheOutputWithinItsLimits : Obligations.StepsKeepTheOutputWithinItsLimits := by
  unfold Obligations.StepsKeepTheOutputWithinItsLimits
  exact fun s t hs ht => step_keeps (P := fun u => u.output.Bounded) Change.bounded (fun _ _ h => h) ht hs

/-! ### The class tables and the Preamble Store (R27, R30, R32) -/

/-- The entry's Lp is no greater than the pattern it names, unless that is empty. -/
def EntryFits (e : ClassEntry) (patterns : Vector (List Quadrant) 8) : Prop :=
  patterns[e.preamble] ≠ [] → e.lp ≤ patterns[e.preamble].length

theorem State.TablesLegal.fitsIn (h : s.TablesLegal) (ch i : Fin 6) : EntryFits (s.chan ch).classes[i] s.patterns :=
  h.fitted ch i

/-- The law reads the classes, the patterns and the items that wait. -/
theorem State.TablesLegal.congr (h : s.TablesLegal) (classes : ∀ ch, (t.chan ch).classes = (s.chan ch).classes)
    (patterns : t.patterns = s.patterns)
    (waiting : ∀ p, t.link.transfer = some p → ∀ i ∈ p.items,
      i.Fits ∨ ∃ p', s.link.transfer = some p' ∧ i ∈ p'.items) : t.TablesLegal where
  classes ch i := by rw [classes]; exact h.classes ch i
  patterns i := by rw [patterns]; exact h.patterns i
  fitted ch i := show EntryFits (t.chan ch).classes[i] t.patterns by rw [classes, patterns]; exact h.fitsIn ch i
  waiting p hp i hi := by
    rcases waiting p hp i hi with fits | ⟨p', underWay, waits⟩
    · exact fits
    · exact h.waiting p' underWay i waits

theorem State.TablesLegal.congr_link (h : s.TablesLegal) (classes : ∀ ch, (t.chan ch).classes = (s.chan ch).classes)
    (patterns : t.patterns = s.patterns) (link : t.link = s.link) : t.TablesLegal :=
  h.congr classes patterns fun p hp _ hi => .inr ⟨p, link ▸ hp, hi⟩

theorem ClassEntry.reset_inRange : ClassEntry.reset.InRange := by
  constructor <;> decide

/-- Power-on values: every class at its default, every pattern empty, no item waiting. -/
theorem State.tablesLegal_of_powerOn (classes : ∀ (ch : Fin 6) (i : Fin 6), (s.chan ch).classes[i] = ClassEntry.reset)
    (patterns : ∀ i : Fin 8, s.patterns[i] = []) (idle : s.link.transfer = none) : s.TablesLegal where
  classes ch i := by rw [classes]; exact ClassEntry.reset_inRange
  patterns i := .inl (by rw [patterns]; rfl)
  fitted ch i named := absurd (patterns _) named
  waiting p hp := by rw [idle] at hp; cases hp

theorem clampShift_mem (v : Nat) : clampShift v = 0 ∨ (8 ≤ clampShift v ∧ clampShift v ≤ 24) := by
  unfold clampShift
  split
  · exact .inl rfl
  · exact .inr (clampNat_mem (by decide) v)

theorem clampLp_mem (lp n : Nat) : 8 ≤ clampLp lp n ∧ clampLp lp n ≤ 64 ∧ (8 ≤ n → clampLp lp n ≤ n) := by
  have range := clampNat_mem (lo := 8) (hi := 64) (by decide) lp
  unfold clampLp
  dsimp only
  split <;> omega

/-- An entry is stored in its ranges (R27). -/
theorem storedEntry_inRange {e : ClassEntry} (fits : (PutItem.classEntry e).Fits) (n : Nat) : (storedEntry e n).InRange where
  lp := ⟨(clampLp_mem e.lp n).1, (clampLp_mem e.lp n).2.1⟩
  w := min_le_left _ _
  rho := clampNat_mem (by decide) _
  muTrain := clampShift_mem _
  muTrack := clampShift_mem _
  guardLen := min_le_left _ _
  gate := min_le_left _ _
  floor := by obtain ⟨-, -, -, -, -, -, -, floor⟩ := fits; exact floor

theorem State.setChan_classes (s : State) (ch k : Fin 6) (v : Vector ClassEntry 6) :
    ((s.setChan ch { s.chan ch with classes := v }).chan k).classes = if ch = k then v else (s.chan k).classes := by
  rw [State.setChan_chan]
  split
  · rename_i e; subst e; rfl
  · rfl

theorem State.TablesLegal.writeClass (h : s.TablesLegal) {ch i : Fin 6} {e : ClassEntry} {b : Bool}
    (fits : (PutItem.classEntry e).Fits) (written : s.writeClass ch i e = .taken t b) : t.TablesLegal := by
  unfold State.writeClass at written
  split at written
  · cases written
  cases written
  -- the entry at (k, j) is the stored one or an old one
  have entry : ∀ k j : Fin 6, ((s.setChan ch { s.chan ch with
      classes := (s.chan ch).classes.set i (storedEntry e s.patterns[e.preamble].length) }).chan k).classes[j] =
      if ch = k ∧ i = j then storedEntry e s.patterns[e.preamble].length else (s.chan k).classes[j] := fun k j => by
    simp only [State.setChan_classes]
    by_cases hk : ch = k
    · subst hk
      simp [Vector.getElem_set, Fin.ext_iff]
    · simp [hk]
  refine ⟨fun k j => ?_, h.patterns, fun k j => ?_, h.waiting⟩
  · rw [entry]
    split
    · exact storedEntry_inRange fits _
    · exact h.classes k j
  · show EntryFits _ s.patterns
    rw [entry]
    split
    · intro named
      have length := h.patterns e.preamble
      have nonempty : s.patterns[e.preamble].length ≠ 0 := fun z => named (List.eq_nil_of_length_eq_zero z)
      exact (clampLp_mem e.lp _).2.2 (by omega)
    · exact h.fitsIn k j

theorem lowerEntry_preamble (i : Fin 8) (n : Nat) (e : ClassEntry) : (lowerEntry i n e).preamble = e.preamble := by
  unfold lowerEntry; split <;> rfl

/-- An Lp is lowered only to a length of 8 or more, so it stays in its range (R32). -/
theorem lowerEntry_inRange {e : ClassEntry} (h : e.InRange) (i : Fin 8) (n : Nat) : (lowerEntry i n e).InRange := by
  unfold lowerEntry
  split
  · rename_i lower
    obtain ⟨-, least, less⟩ := lower
    exact { h with lp := ⟨least, less.le.trans h.lp.2⟩ }
  · exact h

theorem lowerEntry_lp_le {i : Fin 8} {n : Nat} {e : ClassEntry} (names : e.preamble = i) (least : 8 ≤ n) :
    (lowerEntry i n e).lp ≤ n := by
  unfold lowerEntry
  split
  · exact le_rfl
  · rename_i keep
    simp only [names, least, true_and, not_lt] at keep
    exact keep

theorem lowerEntry_of_other {i : Fin 8} {n : Nat} {e : ClassEntry} (names : e.preamble ≠ i) : lowerEntry i n e = e := by
  simp [lowerEntry, names]

/-- After a pattern has changed a lowered entry fits it, and every other entry its own (R32). -/
theorem lowerEntry_fits {v : Vector (List Quadrant) 8} {i : Fin 8} {qs : List Quadrant} {e : ClassEntry}
    (fits : (PutItem.pattern qs).Fits) (h : EntryFits e v) : EntryFits (lowerEntry i qs.length e) (v.set i qs) := by
  have pattern : ∀ j : Fin 8, (v.set i qs)[j] = if i = j then qs else v[j] := fun j => by
    simp [Vector.getElem_set, Fin.ext_iff]
  unfold EntryFits
  rw [pattern]
  simp only [lowerEntry_preamble]
  split
  · rename_i names
    intro named
    have nonempty : qs.length ≠ 0 := fun z => named (List.eq_nil_of_length_eq_zero z)
    have least : 8 ≤ qs.length := by rcases fits with z | range <;> omega
    exact lowerEntry_lp_le names.symm least
  · rename_i other
    have same : lowerEntry i qs.length e = e := lowerEntry_of_other fun names => other names.symm
    simp only [same]
    exact h

theorem State.TablesLegal.writePattern (h : s.TablesLegal) {i : Fin 8} {qs : List Quadrant} {b : Bool}
    (fits : (PutItem.pattern qs).Fits) (written : s.writePattern i qs = .taken t b) : t.TablesLegal := by
  unfold State.writePattern at written
  split at written
  · cases written
  cases written
  have pattern : ∀ j : Fin 8, (s.patterns.set i qs)[j] = if i = j then qs else s.patterns[j] := fun j => by
    simp [Vector.getElem_set, Fin.ext_iff]
  refine ⟨fun ch j => ?_, fun j => ?_, fun ch j => ?_, h.waiting⟩
  · simp only [State.chan, Fin.getElem_fin, Vector.getElem_map]
    exact lowerEntry_inRange (h.classes ch j) i _
  · rw [pattern]
    split
    · exact fits
    · exact h.patterns j
  · simp only [State.chan, Fin.getElem_fin, Vector.getElem_map]
    exact lowerEntry_fits fits (h.fitsIn ch j)

theorem Change.tablesLegal (h : Change s t) (hs : s.TablesLegal) : t.TablesLegal := by
  cases h with
  | powerOn =>
    refine State.tablesLegal_of_powerOn (fun ch i => ?_) (fun i => ?_) rfl
    · simp [State.chan, Channel.reset]
    · simp [State.reset]
  | channels v classes => exact hs.congr_link classes rfl rfl
  | record r => exact hs.congr_link (fun ch => by simp) (by simp) (by simp)
  | notice e => exact hs.congr_link (fun ch => by simp) (by simp) (by simp)
  | response m st fs => exact hs.congr_link (fun ch => by simp) (by simp) (by simp)
  | frame =>
    unfold State.sendFrame
    split
    · exact hs
    · split
      · exact hs.congr_link (fun _ => rfl) rfl rfl
      · exact hs
  | link n waiting => exact hs.congr (fun _ => rfl) rfl waiting
  | item a underWay waits written =>
    rename_i p i _
    have fits := hs.waiting p underWay i waits
    cases i with
    | classEntry e => exact hs.writeClass fits written
    | pattern qs => exact hs.writePattern fits written
    | coefficient c => cases written; exact hs.congr_link (fun _ => rfl) rfl rfl
    | profileFields c b rl => cases written; exact hs.congr_link (fun _ => rfl) rfl rfl
  | _ => exact hs.congr_link (fun _ => rfl) rfl rfl

/-- Settles O59: items wait only with values that fit their fields; a class entry is then stored in its ranges with its Lp
against its pattern, and a pattern lowers each Lp above it. -/
theorem stepsKeepTheTablesLegal : Obligations.StepsKeepTheTablesLegal := by
  unfold Obligations.StepsKeepTheTablesLegal
  exact fun s t hs ht => step_keeps Change.tablesLegal (fun _ _ h => h.congr_link (fun _ => rfl) rfl rfl) ht hs

/-- Power-on leaves every channel OFF with an empty queue and every lane FREE (R33, R55, R79). -/
theorem State.reset_quiet : State.reset.Quiet where
  unsynced _ ch := by simp [State.reset, State.chan, Channel.reset, ChannelState.active]
  inactive ch _ :=
    ⟨by simp [State.reset, State.queue, State.chan, Channel.reset],
      fun l => State.serves_eq_false.2 (.inl (by rw [State.reset_lane]; rfl))⟩
  depth ch := by simp [State.reset, State.queue, State.chan, Channel.reset]

/-- Settles O56: each law holds of the power-on values. -/
theorem resetSatisfiesTheLaws : Obligations.ResetSatisfiesTheLaws := by
  unfold Obligations.ResetSatisfiesTheLaws
  refine ⟨OutputQueue.reset_bounded, State.reset_quiet, ?_, State.reset_stationsLegal⟩
  refine State.tablesLegal_of_powerOn (fun ch i => ?_) (fun i => ?_) rfl
  · simp [State.reset, State.chan, Channel.reset]
  · simp [State.reset]

end Sys2Proof.Machine
end

section
/-! The machine as a block, RESET_N and the tick counter: which commands complete, which act while RESET_N is low, what the
pin returns to its power-on value, and what a change of the counter notes. -/

namespace Sys2Proof.Machine

variable {s : State}

/-! ### The machine as a block -/

/-- Settles O1: both clauses are the two branches of `step`. -/
theorem stepRunsTheFrontCommand : Obligations.StepRunsTheFrontCommand := by
  unfold Obligations.StepRunsTheFrontCommand
  refine ⟨fun c rest s h => ?_, fun s h => ?_⟩
  · simp only [step, h]
  · simp only [step, h]

/-- A message that no frame can carry stops with a fault (log entry 29). -/
theorem takeRequest_oversized {m : Message} {take : State → Message → State} (s : State) (long : bodyFits m.body = false) :
    takeRequest m take s = .fault .oversizedMessage := if_neg (of_decide_eq_false long)

theorem takeRequest_of_fits {m : Message} {take : State → Message → State} (s : State) (fits : bodyFits m.body = true) :
    takeRequest m take s = .next (s.unlessReset fun s => take (s.setLink (s.link.offer m)) m) :=
  takeRequest_completes s (of_decide_eq_true fits)

/-- The kinds that stop an unknown-kind command are the known ones (R184, R186). -/
theorem execUnknownKind_eq (kind tag : Byte) (body : List Byte) (s : State) :
    execUnknownKind kind tag body s = if kindIsKnown kind = true then .fault .kindNotUnknown
      else takeRequest ⟨kind, tag, body⟩ State.takeUnknown s := by
  simp only [execUnknownKind, kindIsKnown_iff]

/-- A command that can be sent completes in every state. -/
theorem exec_completes {c : Instr} (s : State) (sendable : WellFormed c = true) : ∃ t, exec c s = .next t := by
  cases c with
  | timeMark _ _ | nodeSet _ _ | resetNode _ _ | channelSet _ _ | channelStart _ _ | channelStop _ _ | channelHalt _ _
  | schedule _ _ | profileBind _ _ | profileUnbind _ _ | profileRevert _ _ | profileClear _ _ | tableSeek _ _
  | tablePut _ _ | tableGet _ _ | directoryGet _ _ | statusGet _ _ => exact ⟨_, takeRequest_of_fits s sendable⟩
  | unknownKind kind tag body =>
    simp only [WellFormed, Bool.and_eq_true, Bool.not_eq_true'] at sendable
    obtain ⟨fits, unknown⟩ := sendable
    have split := execUnknownKind_eq kind tag body s
    rw [unknown] at split
    exact ⟨_, split.trans (takeRequest_of_fits s fits)⟩
  | _ => exact ⟨_, rfl⟩

/-- A command that cannot be sent stops with a fault (log entry 29). -/
theorem exec_faults {c : Instr} (s : State) (unsendable : WellFormed c = false) : ∃ r, exec c s = .fault r := by
  cases c with
  | timeMark _ _ | nodeSet _ _ | resetNode _ _ | channelSet _ _ | channelStart _ _ | channelStop _ _ | channelHalt _ _
  | schedule _ _ | profileBind _ _ | profileUnbind _ _ | profileRevert _ _ | profileClear _ _ | tableSeek _ _
  | tablePut _ _ | tableGet _ _ | directoryGet _ _ | statusGet _ _ => exact ⟨_, takeRequest_oversized s unsendable⟩
  | unknownKind kind tag body =>
    have split := execUnknownKind_eq kind tag body s
    cases known : kindIsKnown kind
    · simp only [WellFormed, known, Bool.not_false, Bool.and_true] at unsendable
      rw [known] at split
      exact ⟨_, split.trans (takeRequest_oversized s unsendable)⟩
    · rw [known] at split
      exact ⟨_, split⟩
  | _ => cases unsendable

/-- Settles O3: a message completes or faults by its length and kind, every other command completes. -/
theorem sendableCommandsComplete : Obligations.SendableCommandsComplete := by
  unfold Obligations.SendableCommandsComplete
  exact fun c s => ⟨exec_completes s, exec_faults s⟩

/-- A command that can be sent and carries a message offers it to the link and takes it as the owner of its kind does. -/
theorem exec_message {c : Instr} {m : Message} (carries : c.message = some m) (sendable : WellFormed c = true) (s : State) :
    exec c s = .next (s.unlessReset fun s => (s.setLink (s.link.offer m)).takeMessage m) := by
  obtain ⟨t, ht⟩ := exec_completes s sendable
  have taken := exec_of_message carries ht
  rw [ht, ← taken]
  unfold takeRequest at taken ⊢
  split
  · rfl
  · rename_i long; rw [if_neg long] at taken; cases taken

/-! ### RESET_N (R1, R15) -/

/-- Settles O7: a message is lost, and every event stands behind the test of the pin. -/
theorem onlyReleaseAndLocksActInReset : Obligations.OnlyReleaseAndLocksActInReset := by
  unfold Obligations.OnlyReleaseAndLocksActInReset
  intro c s held sendable
  have none {f : State → State} :
      Host.Outcome.next (φ := Fault) (ρ := Refusal) (s.unlessReset f) = .next s := by
    rw [State.unlessReset_held s f held]
  cases c with
  | resetNAssert => rfl
  | resetNRelease => rfl
  | inputLockLocked ch => rfl
  | inputLockLost ch =>
    exact congrArg Host.Outcome.next
      (State.unlessReset_held (s.setChan ch { s.chan ch with lock := .lost }) _ held)
  | timeMark _ _ | nodeSet _ _ | resetNode _ _ | channelSet _ _ | channelStart _ _ | channelStop _ _ | channelHalt _ _
  | schedule _ _ | profileBind _ _ | profileUnbind _ _ | profileRevert _ _ | profileClear _ _ | tableSeek _ _
  | tablePut _ _ | tableGet _ _ | directoryGet _ _ | statusGet _ _ | unknownKind _ _ _ =>
    rw [exec_message rfl sendable]
    exact none
  | _ => exact none

/-- The default vector, tap by tap (section 6.1). -/
theorem defaultVector_tap (k : Fin 24) : defaultVector[k] = if k = 6 then ⟨16384, 0⟩ else ⟨0, 0⟩ := by
  revert k; decide

/-- Settles O5: every value is read off the power-on state. -/
theorem resetReturnsEveryPowerOnValue : Obligations.ResetReturnsEveryPowerOnValue := by
  unfold Obligations.ResetReturnsEveryPowerOnValue
  intro s
  refine ⟨_, rfl, rfl, fun ch => ?_, fun i => ?_, fun l => ?_, fun p => ?_, rfl, rfl, rfl, rfl⟩
  · simp [State.chan, Channel.reset, ClassEntry.reset]
  · simp [State.reset]
  · have lane := State.reset_lane l
    exact ⟨lane, congrArg Lane.state lane, congrArg Lane.role lane, congrArg Lane.measurement lane⟩
  · have prof := State.reset_prof p
    exact ⟨prof, congrArg Profile.state prof, congrArg Profile.key prof, congrArg Profile.previous prof,
      congrArg Profile.offset prof, congrArg Profile.bias prof, congrArg Profile.revertLimit prof,
      fun k => (congrArg (fun x : Profile => x.current[k]) prof).trans (defaultVector_tap k)⟩

/-! ### Changes of the counter (R2) -/

theorem noted_eq (note : Bool) (x c : Tick) :
    noted note x c = (note || !decide (1 ≤ (x - c).toNat ∧ (x - c).toNat ≤ 2 ^ 31 - 1)) := rfl

/-- Settles O6: the notes of a change of the counter, part by part. -/
theorem tickAdvancesTheCounter : Obligations.TickAdvancesTheCounter := by
  unfold Obligations.TickAdvancesTheCounter
  rintro s t c reached spelled rfl
  have note : ∀ b x, noted b x c = (b || reached x) := fun b x => by rw [noted_eq, spelled]
  refine ⟨rfl, fun l free => ?_, fun l busy => ?_, fun ch => ?_, ?_, rfl, fun running => ?_⟩
  · rw [State.setCounter_lane, Lane.noteTicks, if_pos free]
  · rw [State.setCounter_lane, Lane.noteTicks, if_neg busy]
    simp only [note]
  · rw [State.setCounter_chan]
    simp only [Channel.mapQueue, QueuedGrant.noteArm, note, State.queue]
  · simp only [State.setCounter, Sweep.noteVisit, note]
  · exact congrArg Host.Outcome.next (State.unlessReset_running s _ running)

end Sys2Proof.Machine
end

section
/-! The formats of the node link (chapter 10): every request body and PUT item reads back, frames carry their messages, and
what becomes of a message that has no form, no turn or no room. -/

namespace Sys2Proof

/-! ### Bodies (section 10.6, R197) -/

@[simp] theorem value16_beBytes {v : Nat} (h : v < 65536) :
    value16 (BitVec.ofNat 8 (v / 256)) (BitVec.ofNat 8 v) = v := value16_bytes v h

theorem readTimeMark_writeTimeMark (t : Tick) : readTimeMark (writeTimeMark t) = some t := by
  simp [readTimeMark, writeTimeMark, bytes32, word32_bytes32]

theorem readNodeSet_writeNodeSet (n : NodeSettings) (h1 : n.markTimeout < 65536) (h2 : n.holdoverLimit < 65536)
    (h3 : n.stepTolerance < 65536) (h4 : n.ageingPeriod < 65536) (h5 : n.ageLimit < 256) :
    readNodeSet (writeNodeSet n) = some n := by
  simp [writeNodeSet, beBytes_two, beBytes_one, readNodeSet, h1, h2, h3, h4, Nat.mod_eq_of_lt h5]

theorem readChannelSet_writeChannelSet (c : ChannelSettings) (h : c.channel < 256) :
    readChannelSet (writeChannelSet c) = some c := by
  simp [writeChannelSet, beBytes_one, bytes32, readChannelSet, word32_bytes32, Nat.mod_eq_of_lt h]

theorem readChannel_writeChannel {ch : Nat} (h : ch < 256) : readChannel (writeChannel ch) = some ch := by
  simp [writeChannel, beBytes_one, readChannel, Nat.mod_eq_of_lt h]

/-- The fields of a grant's last byte. -/
theorem grantByte_fields (cls : Fin 6) (ranging chain noWriteback : Bool) (b : Byte)
    (hb : b = BitVec.ofNat 8 (cls.val * 32 + (if ranging then 4 else 0) + (if chain then 2 else 0) +
      (if noWriteback then 1 else 0))) :
    (b.extractLsb' 5 3).toNat = cls.val ∧ b.extractLsb' 3 2 = 0#2 ∧ b.getLsbD 2 = ranging ∧ b.getLsbD 1 = chain ∧
      b.getLsbD 0 = noWriteback := by
  subst hb
  revert cls ranging chain noWriteback
  decide

/-- The values that a grant's fields can carry (R37). -/
def Grant.Carried (g : Grant) : Prop := 1 ≤ g.station ∧ g.station ≤ 16383 ∧ 1 ≤ g.length ∧ g.length ≤ 255

theorem readGrants_writeGrants (gs : List Grant) (carried : ∀ g ∈ gs, g.Carried) :
    readGrants gs.length (gs.flatMap writeGrant) = some gs := by
  induction gs with
  | nil => rfl
  | cons g gs ih =>
    obtain ⟨s1, s2, l1, l2⟩ := carried g List.mem_cons_self
    obtain ⟨cls, unused, ranging, chain, noWriteback⟩ :=
      grantByte_fields g.cls g.ranging g.chain g.noWriteback _ rfl
    have rest := ih fun x hx => carried x (List.mem_cons_of_mem g hx)
    have length : (BitVec.ofNat 8 g.length).toNat = g.length := ofNat8_toNat _ (by omega)
    have first : readGrant (BitVec.ofNat 8 (g.station / 256)) (BitVec.ofNat 8 g.station)
        (g.start.extractLsb' 24 8) (g.start.extractLsb' 16 8) (g.start.extractLsb' 8 8) (g.start.extractLsb' 0 8)
        (BitVec.ofNat 8 g.length)
        (BitVec.ofNat 8 (g.cls.val * 32 + (if g.ranging then 4 else 0) + (if g.chain then 2 else 0) +
          (if g.noWriteback then 1 else 0))) = some g := by
      unfold readGrant
      simp only [value16_bytes g.station (by omega), word32_bytes32, length, cls, unused, ranging, chain, noWriteback]
      rw [dif_pos g.cls.isLt, if_pos ⟨s1, s2, l1, trivial⟩]
    simp only [List.flatMap_cons, List.length_cons, writeGrant, beBytes_two, beBytes_one, bytes32, List.cons_append,
      List.nil_append, readGrants]
    rw [first, rest]

theorem readSchedule_writeSchedule {ch : Nat} (hch : ch < 256) {gs : List Grant} (some1 : 1 ≤ gs.length)
    (most : gs.length ≤ 32) (carried : ∀ g ∈ gs, g.Carried) : readSchedule (writeSchedule ch gs) = some (ch, gs) := by
  have count : (BitVec.ofNat 8 gs.length).toNat = gs.length := ofNat8_toNat _ (by omega)
  simp only [writeSchedule, beBytes_one, List.cons_append, List.nil_append, readSchedule, count, some1, most,
    and_self, if_true, readGrants_writeGrants gs carried, ofNat8_toNat ch hch]

theorem readProfileBind_writeProfileBind (r : BindRequest) (h1 : 1 ≤ r.station) (h2 : r.station ≤ 16382)
    (h3 : r.channel < 256) (h4 : r.profile < 65536) (h5 : r.revertLimit < 256) :
    readProfileBind (writeProfileBind r) = some r := by
  simp [writeProfileBind, beBytes_two, beBytes_one, readProfileBind, value16_bytes r.station (by omega),
    value16_bytes r.profile h4, h1, h2, Nat.mod_eq_of_lt h3, Nat.mod_eq_of_lt h5]

theorem readProfileUnbind_writeProfileUnbind {station ch : Nat} (h1 : 1 ≤ station) (h2 : station ≤ 16382)
    (h3 : ch < 256) : readProfileUnbind (writeProfileUnbind station ch) = some (station, ch) := by
  simp [writeProfileUnbind, beBytes_two, beBytes_one, readProfileUnbind, value16_bytes station (by omega), h1, h2,
    Nat.mod_eq_of_lt h3]

theorem readProfile_writeProfile {p : Nat} (h : p < 65536) : readProfile (writeProfile p) = some p := by
  simp [writeProfile, beBytes_two, readProfile, value16_bytes p h]

theorem readTableSeek_writeTableSeek (t : TableId) {ch i : Nat} (h1 : ch < 256) (h2 : i < 65536) :
    readTableSeek (writeTableSeek t ch i) = some (t, ch, i) := by
  simp [writeTableSeek, beBytes_two, beBytes_one, readTableSeek, value16_bytes i h2, Nat.mod_eq_of_lt h1]

theorem readTableGet_writeTableGet {n : Nat} (h1 : 1 ≤ n) (h2 : n ≤ 64) : readTableGet (writeTableGet n) = some n := by
  simp only [writeTableGet, beBytes_one, readTableGet, ofNat8_toNat n (by omega), h1, h2, and_self, if_true]

theorem readDirectoryGet_writeDirectoryGet {station : Nat} (ch : Fin 6) (h : station ≤ 16383) :
    readDirectoryGet (writeDirectoryGet station ch) = some (station, ch) := by
  have channel : (BitVec.ofNat 8 ch.val).toNat = ch.val := ofNat8_toNat _ (by omega)
  simp only [writeDirectoryGet, beBytes_two, beBytes_one, List.cons_append, List.nil_append, readDirectoryGet, channel,
    value16_bytes station (by omega)]
  rw [dif_pos ch.isLt, if_pos h]

/-! ### Items of TABLE PUT (section 10.6) -/

theorem quadrantsOf_append (a b c d : Quadrant) : quadrantsOf (((a ++ b) ++ c) ++ d) = [a, b, c, d] := by
  revert a b c d
  decide

/-- The packed quadrants, the missing ones 0. -/
theorem packQuadrants_quadrants (n : Nat) (qs : List Quadrant) :
    (packQuadrants n qs).flatMap quadrantsOf = (List.range (4 * n)).map fun i => qs.getD i 0#2 := by
  induction n generalizing qs with
  | zero => rfl
  | succ n ih =>
    rw [packQuadrants, List.flatMap_cons, quadrantsOf_append, ih, show 4 * (n + 1) = 4 + 4 * n by ring, List.range_add,
      List.map_append, List.map_map]
    congr 1
    refine List.map_congr_left fun i _ => ?_
    simp [List.getD_eq_getElem?_getD, List.getElem?_drop]

theorem packQuadrants_length (n : Nat) (qs : List Quadrant) : (packQuadrants n qs).length = n := by
  induction n generalizing qs with
  | zero => rfl
  | succ n ih => rw [packQuadrants, List.length_cons, ih]

theorem readPatternItem_patternBytes {qs : List Quadrant} (fits : qs.length = 0 ∨ (8 ≤ qs.length ∧ qs.length ≤ 64)) :
    readPatternItem (patternBytes qs) = some (.pattern qs) := by
  have length : (BitVec.ofNat 8 qs.length).toNat = qs.length := ofNat8_toNat _ (by omega)
  have taken : ((List.range (4 * 16)).map fun i => qs.getD i 0#2).take qs.length = qs := by
    rw [← List.map_take, List.take_range, min_eq_left (by omega)]
    refine List.ext_getElem (by simp) fun i hi hi' => ?_
    simp [List.getD_eq_getElem?_getD, hi']
  have padded : (((List.range (4 * 16)).map fun i => qs.getD i 0#2).drop qs.length).all (· == 0#2) = true := by
    rw [List.all_eq_true]
    intro q hq
    obtain ⟨i, hi, rfl⟩ := List.mem_iff_getElem.1 hq
    simp [List.getD_eq_getElem?_getD]
  simp only [patternBytes, beBytes_one, List.cons_append, List.nil_append, readPatternItem, length,
    packQuadrants_quadrants, packQuadrants_length]
  rw [if_pos ⟨trivial, fits, padded⟩, taken]

theorem readClassItem_classBytes {e : ClassEntry} (fits : (PutItem.classEntry e).Fits) :
    readClassItem (classBytes e) = some (.classEntry e) := by
  obtain ⟨lp, w, rho, muTrain, muTrack, guardLen, gate, floor⟩ := fits
  have preamble : (BitVec.ofNat 8 e.preamble.val).toNat = e.preamble.val := ofNat8_toNat _ (by omega)
  have three : beBytes 3 e.floor = [BitVec.ofNat 8 (e.floor / 256 ^ 2), BitVec.ofNat 8 (e.floor / 256 ^ 1),
    BitVec.ofNat 8 (e.floor / 256 ^ 0)] := rfl
  have back : beValue (beBytes 3 e.floor) = e.floor := by rw [beValue_beBytes]; exact Nat.mod_eq_of_lt floor
  rw [three] at back
  simp only [classBytes, beBytes_one, three, List.cons_append, List.nil_append, readClassItem, preamble,
    readBool_boolByte, readModulation_code, ofNat8_toNat _ lp, ofNat8_toNat _ w, ofNat8_toNat _ rho,
    ofNat8_toNat _ muTrain, ofNat8_toNat _ muTrack, ofNat8_toNat _ guardLen, ofNat8_toNat _ gate, back]
  rw [dif_pos e.preamble.isLt]

theorem readCoefItem_coefBytes (c : Coef) : readCoefItem (coefBytes c) = some (.coefficient c) := by
  simp [coefBytes, readCoefItem, append_bytes16]

/-- A signed number of two bytes reads back. -/
theorem signed16_beSigned {v : Int} (low : -2 ^ 15 ≤ v) (high : v < 2 ^ 15) :
    signed16 (BitVec.ofNat 8 ((v % 65536).toNat / 256)) (BitVec.ofNat 8 (v % 65536).toNat) = v := by
  have value := value16_bytes (v % 65536).toNat (by omega)
  unfold value16 at value
  rw [signed16, BitVec.toInt_eq_toNat_cond, value]
  split <;> omega

/-- A signed number of one byte reads back. -/
theorem signed8_beSigned {v : Int} (low : -128 ≤ v) (high : v < 128) :
    signed8 (BitVec.ofNat 8 (v % 256).toNat) = v := by
  have value := ofNat8_toNat (v % 256).toNat (by omega)
  rw [signed8, BitVec.toInt_eq_toNat_cond, value]
  split <;> omega

theorem readMetaItem_bytes {c b : Int} {rl : Nat} (fits : (PutItem.profileFields c b rl).Fits) :
    readMetaItem (beSigned 2 c ++ beSigned 1 b ++ beBytes 1 rl) = some (.profileFields c b rl) := by
  obtain ⟨c1, c2, b1, b2, limit⟩ := fits
  simp only [beSigned, beBytes_two, beBytes_one, List.cons_append, List.nil_append, readMetaItem, Nat.reducePow,
    Nat.cast_ofNat, signed16_beSigned c1 c2, signed8_beSigned b1 b2, ofNat8_toNat _ limit]

/-- An item reads back in the format of its table, which has the table's item length. -/
theorem readItem_writeItem {t : TableId} {i : PutItem} (fits : i.Fits) (ofTable : i.OfTable t) :
    readItem t (writeItem i) = some i ∧ (writeItem i).length = t.putSize := by
  cases i with
  | classEntry e =>
    obtain rfl : t = .classes := ofTable
    exact ⟨readClassItem_classBytes fits, by simp [writeItem, classBytes, TableId.putSize]⟩
  | pattern qs =>
    obtain rfl : t = .preambles := ofTable
    exact ⟨readPatternItem_patternBytes fits,
      by simp [writeItem, patternBytes, packQuadrants_length, TableId.putSize]⟩
  | coefficient c => rcases ofTable with rfl | rfl <;> exact ⟨readCoefItem_coefBytes c, rfl⟩
  | profileFields c b rl =>
    obtain rfl : t = .profileMeta := ofTable
    exact ⟨readMetaItem_bytes fits, by simp [writeItem, TableId.putSize]⟩

theorem readItems_writeItems {t : TableId} (items : List PutItem) (fit : ∀ i ∈ items, i.Fits ∧ i.OfTable t) :
    readItems t items.length (items.flatMap writeItem) = some items := by
  induction items with
  | nil => rfl
  | cons i is ih =>
    obtain ⟨fits, ofTable⟩ := fit i List.mem_cons_self
    obtain ⟨first, size⟩ := readItem_writeItem fits ofTable
    rw [List.length_cons, List.flatMap_cons, readItems, ← size, List.take_left, List.drop_left, first,
      ih fun x hx => fit x (List.mem_cons_of_mem i hx)]

theorem readTablePut_writeTablePut {t : TableId} {items : List PutItem} (some1 : 1 ≤ items.length)
    (most : items.length ≤ 255) (fit : ∀ i ∈ items, i.Fits ∧ i.OfTable t) :
    readTablePut t (writeTablePut items) = some items := by
  simp only [writeTablePut, beBytes_one, List.cons_append, List.nil_append, readTablePut,
    ofNat8_toNat items.length (by omega), some1, if_true, readItems_writeItems items fit]

/-- Settles O11: format by format. -/
theorem requestBodiesReadBack : Obligations.RequestBodiesReadBack := by
  unfold Obligations.RequestBodiesReadBack
  exact ⟨readTimeMark_writeTimeMark, readNodeSet_writeNodeSet, readChannelSet_writeChannelSet,
    fun _ h => readChannel_writeChannel h,
    fun _ h _ some1 most carried => readSchedule_writeSchedule h some1 most carried, readProfileBind_writeProfileBind,
    fun _ _ => readProfileUnbind_writeProfileUnbind, fun _ h => readProfile_writeProfile h,
    fun t _ _ => readTableSeek_writeTableSeek t, fun _ => readTableGet_writeTableGet,
    fun _ ch => readDirectoryGet_writeDirectoryGet ch, fun _ _ => readTablePut_writeTablePut⟩

end Sys2Proof
end

section
/-! Frames and messages (chapter 10): what a frame's bytes carry, what a frame takes from the output queue, and what becomes
of a message that has no form, no turn or no room. -/

namespace Sys2Proof

/-! ### A frame's bytes (section 10.1, R183, R184) -/

/-- The bytes of a frame before its check sequence. -/
def frameBody (destination source : BitVec 48) (linkType : Nat) (payload : List Byte) : List Byte :=
  beBytes 6 destination.toNat ++ beBytes 6 source.toNat ++ beBytes 2 linkType ++ payload

theorem frameBody_take_twelve (dst src : BitVec 48) (lt : Nat) (payload : List Byte) :
    (frameBody dst src lt payload).take 6 = beBytes 6 dst.toNat ∧
    ((frameBody dst src lt payload).drop 6).take 6 = beBytes 6 src.toNat ∧
    ((frameBody dst src lt payload).drop 12).take 2 = beBytes 2 lt ∧
    (frameBody dst src lt payload).drop 14 = payload := by
  refine ⟨?_, ?_, ?_, ?_⟩ <;>
  simp [frameBody, List.drop_append, List.drop_of_length_le]

theorem address_six_bytes (a : BitVec 48) : BitVec.ofNat 48 (a.toNat % 256 ^ 6) = a := by
  have bound := a.isLt
  rw [Nat.mod_eq_of_lt (by omega), BitVec.ofNat_toNat, BitVec.setWidth_eq]

theorem readFrame_of_wrong_check {body fcs : List Byte} (four : fcs.length = 4) (wrong : fcs ≠ checkBytes body) :
    readFrame (body ++ fcs) = none := by
  have cut : (body ++ fcs).length - 4 = body.length := by simp [four]
  refine if_neg fun good => ?_
  obtain ⟨-, -, -, -, check, -⟩ := good
  rw [cut, List.drop_left', List.take_left'] at check
  · exact wrong check
  · rfl
  · rfl

/-- What the bytes of a frame with a correct check sequence read as. -/
theorem readFrame_frameBody (dst src : BitVec 48) (lt : Nat) (payload : List Byte) :
    readFrame (frameBody dst src lt payload ++ checkBytes (frameBody dst src lt payload)) =
      if 46 ≤ payload.length ∧ payload.length ≤ 1500 ∧ isGroupAddress dst = false ∧ lt % 65536 = 0xB6E1 ∧
          beValue (payload.take 2) = 0 then
        some { destination := dst, source := src, carry := beValue (payload.take 2), messageBytes := payload.drop 2,
               payloadLength := payload.length }
      else none := by
  obtain ⟨readDst, readSrc, readType, readPayload⟩ := frameBody_take_twelve dst src lt payload
  have total : (frameBody dst src lt payload).length = payload.length + 14 := by
    simp [frameBody]; omega
  generalize frameBody dst src lt payload = body at *
  have four : (checkBytes body).length = 4 := rfl
  have cut : (body ++ checkBytes body).length - 4 = body.length := by simp [four]
  have front : (body ++ checkBytes body).take body.length = body := List.take_left' rfl
  have back : (body ++ checkBytes body).drop body.length = checkBytes body := List.drop_left' rfl
  unfold readFrame
  simp only [cut, front, back, readDst, readSrc, readType, readPayload, beValue_beBytes, address_six_bytes]
  simp only [List.length_append, four, total, true_and, Config.payloadMin, Config.payloadMax, Config.linkType]
  rfl

/-- The messages of a payload are separated again, the padding behind them is none (R184). -/
theorem separateMessages_writeMessages : ∀ (ms : List Message) (n pad : Nat), ms.length ≤ n →
    (∀ m ∈ ms, m.kind ≠ 0#8 ∧ m.body.length + 4 < 65536) →
    separateMessages n (ms.flatMap writeMessage ++ List.replicate pad 0#8) = ms
  | [], n, pad, _, _ => by
    match n, pad with
    | 0, _ => rfl
    | n + 1, 0 | n + 1, 1 | n + 1, 2 | n + 1, 3 => rfl
    | n + 1, pad + 4 => simp [List.replicate_succ, separateMessages]
  | m :: ms, n + 1, pad, enough, legal => by
    obtain ⟨kind, short⟩ := legal m List.mem_cons_self
    have rest := separateMessages_writeMessages ms n pad (by simpa using enough)
      fun x hx => legal x (List.mem_cons_of_mem _ hx)
    have length := value16_bytes (m.body.length + 4) short
    simp only [List.flatMap_cons, writeMessage, beBytes_two, List.cons_append, List.nil_append, List.append_assoc,
      separateMessages, if_neg kind, length, Nat.add_sub_cancel, List.take_left', List.drop_left', rest]
    rw [if_neg]
    simp

theorem writeFrame_eq (dst src : BitVec 48) (carry : Nat) (bytes : List Byte) :
    ∃ payload : List Byte, payload = beBytes 2 carry ++ bytes ++ List.replicate (44 - bytes.length) 0#8 ∧
      payload.length = max 46 (bytes.length + 2) ∧
      writeFrame dst src carry bytes = frameBody dst src 0xB6E1 payload ++ checkBytes (frameBody dst src 0xB6E1 payload) := by
  have pad : 46 - (bytes.length + 2) = 44 - bytes.length := by omega
  refine ⟨_, rfl, by simp; omega, ?_⟩
  simp only [writeFrame, frameBody, List.length_append, beBytes_length, Config.payloadMin, Config.linkType]
  rw [Nat.add_comm 2, pad]

/-- What a frame of the part's own form reads as (R183). -/
theorem readFrame_writeFrame (dst src : BitVec 48) {carry : Nat} (fits : carry < 65536) (bytes : List Byte) :
    readFrame (writeFrame dst src carry bytes) =
      if bytes.length ≤ 1498 ∧ isGroupAddress dst = false ∧ carry = 0 then
        some { destination := dst, source := src, carry := 0,
               messageBytes := bytes ++ List.replicate (44 - bytes.length) 0#8, payloadLength := max 46 (bytes.length + 2) }
      else none := by
  obtain ⟨payload, content, length, frame⟩ := writeFrame_eq dst src carry bytes
  have count : beValue (payload.take 2) = carry := by
    rw [content, List.append_assoc, List.take_left' (beBytes_length _ _), beValue_beBytes, Nat.mod_eq_of_lt (by omega)]
  have messages : payload.drop 2 = bytes ++ List.replicate (44 - bytes.length) 0#8 := by
    rw [content, List.append_assoc, List.drop_left' (beBytes_length _ _)]
  rw [frame, readFrame_frameBody, count, messages, length]
  by_cases good : bytes.length ≤ 1498 ∧ isGroupAddress dst = false ∧ carry = 0
  · obtain ⟨short, individual, rfl⟩ := good
    rw [if_pos ⟨by omega, by omega, individual, rfl, rfl⟩, if_pos ⟨short, individual, rfl⟩]
  · rw [if_neg good, if_neg]
    rintro ⟨-, short, individual, -, whole⟩
    exact good ⟨by omega, individual, whole⟩

namespace Machine

variable {s : State}

/-! ### The arrival of a frame (R183, R185) -/

theorem exec_frameReceived (running : s.resetHeld = false) (bytes : List Byte) :
    exec (.frameReceived bytes) s = .next (s.receiveFrame bytes) := by
  show execFrameReceived bytes s = _
  rw [execFrameReceived, State.unlessReset_running _ _ running]

theorem State.receiveFrame_none {bytes : List Byte} (bad : readFrame bytes = none) : s.receiveFrame bytes = s := by
  simp only [State.receiveFrame, bad]

theorem State.receiveFrame_full {bytes : List Byte} {f : Sys2Proof.Frame} (good : readFrame bytes = some f)
    (full : 16384 < s.link.held + f.payloadLength) : s.receiveFrame bytes = s := by
  simp only [State.receiveFrame, good]
  exact if_neg (Nat.not_le.2 full)

/-- Settles O8: the frame reads as it was written, and its messages are separated again. -/
theorem goodFramesJoinTheInboundBuffer : Obligations.GoodFramesJoinTheInboundBuffer := by
  unfold Obligations.GoodFramesJoinTheInboundBuffer
  intro s dst src ms running individual nonempty kinds short room
  have read := readFrame_writeFrame dst src (carry := 0) (by omega) (ms.flatMap writeMessage)
  rw [if_pos ⟨short, individual, rfl⟩] at read
  have part : ∀ m ∈ ms, (writeMessage m).length ≤ (ms.flatMap writeMessage).length := fun m hm =>
    (List.sublist_flatten_of_mem (List.mem_map_of_mem hm)).length_le
  have separated : separateMessages
      (ms.flatMap writeMessage ++ List.replicate (44 - (ms.flatMap writeMessage).length) 0#8).length
      (ms.flatMap writeMessage ++ List.replicate (44 - (ms.flatMap writeMessage).length) 0#8) = ms := by
    refine separateMessages_writeMessages ms _ _ ?_ fun m hm => ⟨kinds m hm, ?_⟩
    · have counted : ms.length ≤ (ms.flatMap writeMessage).length := by
        rw [List.length_flatMap]
        exact List.length_le_sum_of_one_le _ (by simp [writeMessage_length]) |>.trans_eq' (by simp)
      simp only [List.length_append]; omega
    · have := part m hm
      rw [writeMessage_length] at this; omega
  rw [exec_frameReceived running, State.receiveFrame, read]
  simp only [Config.inboundCapacity, if_pos room, separated, if_neg nonempty]
  rfl

/-- Settles O9: a frame of one of these kinds does not read, or finds no room. -/
theorem badFramesAreDiscarded : Obligations.BadFramesAreDiscarded := by
  unfold Obligations.BadFramesAreDiscarded
  intro s running
  refine ⟨fun body fcs four wrong => ?_, fun dst src carry bytes fits bad => ?_, fun dst src lt payload fits other => ?_⟩
  · rw [exec_frameReceived running, State.receiveFrame_none (readFrame_of_wrong_check four wrong)]
  · have read := readFrame_writeFrame dst src fits bytes
    rw [exec_frameReceived running]
    by_cases good : bytes.length ≤ 1498 ∧ isGroupAddress dst = false ∧ carry = 0
    · obtain ⟨-, individual, whole⟩ := id good
      rw [if_pos good] at read
      rcases bad with group | part | full
      · rw [individual] at group; cases group
      · exact absurd whole part
      · rw [State.receiveFrame_full read full]
    · rw [if_neg good] at read
      rw [State.receiveFrame_none read]
  · have read := readFrame_frameBody dst src lt payload
    rw [if_neg] at read
    · rw [exec_frameReceived running, ← frameBody, State.receiveFrame_none read]
    · rintro ⟨-, -, -, type, -⟩
      rw [Nat.mod_eq_of_lt fits] at type
      exact other type

/-! ### The taking of a message by its form (R186) -/

/-- The message is judged by one reader, and passed on to one owner when it has its kind's form (R186). -/
def Judged (c : Instr) (m : Message) : Prop :=
  ∃ (α : Type) (form : TableId → Option α) (bad : Status) (act : State → α → State),
    (∀ t, (form t).isSome = c.readable t) ∧ (bad = if m.kind ∈ inboundKinds then .malformed else .unknownKind) ∧
    ∀ s : State, s.takeMessage m = s.passOn m (form s.link.pointer.table) bad c.responseRoom act

theorem Judged.of_known {c : Instr} {m : Message} {α : Type} (take : State → Message → State) (form : TableId → Option α)
    {act : State → α → State} (known : inboundKinds.contains m.kind = true) (owner : ∀ s : State, s.takeMessage m = take s m)
    (passes : ∀ s, take s m = s.passOn m (form s.link.pointer.table) .malformed c.responseRoom act)
    (reads : ∀ t, (form t).isSome = c.readable t) : Judged c m :=
  ⟨α, form, .malformed, act, reads, (if_pos (List.contains_iff_mem.1 known)).symm, fun s => (owner s).trans (passes s)⟩

/-- Every message that can be sent is judged so. -/
theorem judged_of_message {c : Instr} {m : Message} (carries : c.message = some m) (sendable : WellFormed c = true) :
    Judged c m := by
  cases c with
  | timeMark tag body =>
    cases carries
    exact .of_known State.takeTimeMark (fun _ => readTimeMark body) rfl (fun _ => rfl) (fun _ => rfl) fun _ => rfl
  | nodeSet tag body =>
    cases carries
    exact .of_known State.takeNodeSet (fun _ => readNodeSet body) rfl (fun _ => rfl) (fun _ => rfl) fun _ => rfl
  | resetNode tag body =>
    cases carries
    exact .of_known State.takeResetNode (fun _ => readEmpty body) rfl (fun _ => rfl) (fun _ => rfl) fun _ => rfl
  | channelSet tag body =>
    cases carries
    exact .of_known State.takeChannelSet (fun _ => readChannelSet body) rfl (fun _ => rfl) (fun _ => rfl) fun _ => rfl
  | channelStart tag body =>
    cases carries
    exact .of_known State.takeChannelStart (fun _ => readChannel body) rfl (fun _ => rfl) (fun _ => rfl) fun _ => rfl
  | channelStop tag body =>
    cases carries
    exact .of_known State.takeChannelStop (fun _ => readChannel body) rfl (fun _ => rfl) (fun _ => rfl) fun _ => rfl
  | channelHalt tag body =>
    cases carries
    exact .of_known State.takeChannelHalt (fun _ => readChannel body) rfl (fun _ => rfl) (fun _ => rfl) fun _ => rfl
  | schedule tag body =>
    cases carries
    exact .of_known State.takeSchedule (fun _ => readSchedule body) rfl (fun _ => rfl) (fun _ => rfl) fun _ => rfl
  | profileBind tag body =>
    cases carries
    exact .of_known State.takeProfileBind (fun _ => readProfileBind body) rfl (fun _ => rfl) (fun _ => rfl) fun _ => rfl
  | profileUnbind tag body =>
    cases carries
    exact .of_known State.takeProfileUnbind (fun _ => readProfileUnbind body) rfl (fun _ => rfl) (fun _ => rfl) fun _ => rfl
  | profileRevert tag body =>
    cases carries
    exact .of_known State.takeProfileRevert (fun _ => readProfile body) rfl (fun _ => rfl) (fun _ => rfl) fun _ => rfl
  | profileClear tag body =>
    cases carries
    exact .of_known State.takeProfileClear (fun _ => readProfile body) rfl (fun _ => rfl) (fun _ => rfl) fun _ => rfl
  | tableSeek tag body =>
    cases carries
    exact .of_known State.takeTableSeek (fun _ => readTableSeek body) rfl (fun _ => rfl) (fun _ => rfl) fun _ => rfl
  | tablePut tag body =>
    cases carries
    exact .of_known State.takeTablePut (fun t => readTablePut t body) rfl (fun _ => rfl) (fun _ => rfl) fun _ => rfl
  | tableGet tag body =>
    cases carries
    exact .of_known State.takeTableGet (fun _ => readTableGet body) rfl (fun _ => rfl) (fun _ => rfl) fun _ => rfl
  | directoryGet tag body =>
    cases carries
    exact .of_known State.takeDirectoryGet (fun _ => readDirectoryGet body) rfl (fun _ => rfl) (fun _ => rfl) fun _ => rfl
  | statusGet tag body =>
    cases carries
    exact .of_known State.takeStatusGet (fun _ => readEmpty body) rfl (fun _ => rfl) (fun _ => rfl) fun _ => rfl
  | unknownKind kind tag body =>
    cases carries
    simp only [WellFormed, Bool.and_eq_true, Bool.not_eq_true'] at sendable
    have unknown : kind ∉ inboundKinds := fun known => by
      have := (kindIsKnown_iff kind).2 (.inr (List.contains_iff_mem.2 known))
      rw [sendable.2] at this
      cases this
    refine ⟨Unit, fun _ => none, .unknownKind, fun s _ => s, fun _ => rfl, (if_neg unknown).symm, fun s => ?_⟩
    exact s.takeMessage_unknown fun k known e => unknown (by rw [show kind = k from e]; exact known)
  | _ => cases carries

section Taking
variable {c : Instr} {m : Message} (carries : c.message = some m) (sendable : WellFormed c = true)
include carries sendable

/-- A message out of turn is offered to the link and not taken (R185, R190). -/
theorem exec_out_of_turn (running : s.resetHeld = false)
    (turn : s.link.transfer ≠ none ∨ (s.link.inbound ≠ [] ∧ s.link.head ≠ some m)) :
    exec c s = .next (s.setLink (s.link.offer m)) := by
  obtain ⟨α, form, bad, act, -, -, take⟩ := judged_of_message carries sendable
  rw [exec_message carries sendable, State.unlessReset_running _ _ running, take, State.passOn_waits]
  rcases turn with busy | ⟨full, behind⟩
  · exact .inl (by simpa using busy)
  · exact .inr (by simpa [NodeLink.offer_behind _ m full] using behind)

/-- A message that is next and has no form of its kind is answered, or held while the answer has no room (R186). -/
theorem exec_unreadable (running : s.resetHeld = false) (idle : s.link.transfer = none)
    (next : s.link.inbound = [] ∨ s.link.head = some m) (bad : c.readable s.link.pointer.table = false) :
    exec c s = .next (if 6 ≤ s.output.room then
        s.taken.respond m (if m.kind ∈ inboundKinds then .malformed else .unknownKind) []
      else (s.setLink (s.link.offer m)).hold) := by
  obtain ⟨α, form, status, act, reads, rfl, take⟩ := judged_of_message carries sendable
  have none : form s.link.pointer.table = none := by simpa [bad] using reads s.link.pointer.table
  rw [exec_message carries sendable, State.unlessReset_running _ _ running, take, State.passOn_next _ _ _ _ _ _ idle next]
  simp only [State.setLink_link, NodeLink.offer_pointer, none]
  rfl

/-- A message that is next, of its kind's form, is held while the greatest response has no room (R179). -/
theorem exec_without_room (running : s.resetHeld = false) (idle : s.link.transfer = none)
    (next : s.link.inbound = [] ∨ s.link.head = some m) (good : c.readable s.link.pointer.table = true)
    (full : s.output.room < c.responseRoom) : exec c s = .next (s.setLink (s.link.offer m)).hold := by
  obtain ⟨α, form, status, act, reads, -, take⟩ := judged_of_message carries sendable
  obtain ⟨x, some⟩ : ∃ x, form s.link.pointer.table = some x := by
    simpa [good, Option.isSome_iff_exists] using reads s.link.pointer.table
  rw [exec_message carries sendable, State.unlessReset_running _ _ running, take, State.passOn_next _ _ _ _ _ _ idle next]
  simp only [State.setLink_link, NodeLink.offer_pointer, some, if_neg (Nat.not_le.2 full)]

end Taking

/-- Settles O12: neither form reads, so the answer is the one that the kind gives. -/
theorem badMessagesAreAnswered : Obligations.BadMessagesAreAnswered := by
  unfold Obligations.BadMessagesAreAnswered
  have answered {c : Instr} {m : Message} {s : State} (carries : c.message = some m) (sendable : WellFormed c = true)
      (ready : s.Ready m 6) (bad : c.readable s.link.pointer.table = false) :
      exec c s = .next (s.taken.answered m (if m.kind ∈ inboundKinds then .malformed else .unknownKind) []) := by
    rw [exec_unreadable carries sendable ready.running ready.idle ready.atHead bad, if_pos ready.fits,
      State.respond_eq_answered _ _ _ [] (by simpa using ready.fits)]
  refine ⟨fun s kind tag body nonzero unknown short ready => ?_, fun s c m carries sendable known bad ready => ?_⟩
  · have sendable : WellFormed (.unknownKind kind tag body) = true := by
      simp only [WellFormed, Bool.and_eq_true, Bool.not_eq_true']
      refine ⟨decide_eq_true short, Bool.eq_false_iff.2 fun known => ?_⟩
      rcases (kindIsKnown_iff kind).1 known with zero | member
      · exact nonzero zero
      · exact unknown (List.contains_iff_mem.1 member)
    rw [answered rfl sendable ready rfl, if_neg unknown]
  · rw [answered carries sendable ready bad, if_pos known]

theorem NodeLink.waits_iff (n : NodeLink) (m : Message) : n.waits m = true ↔ ∃ x ∈ n.inbound, m ∈ x.messages := by
  simp [NodeLink.waits]

/-- Settles O13: a message out of turn is only offered, one without room is also held. -/
theorem messagesWaitForTheirTurnAndRoom : Obligations.MessagesWaitForTheirTurnAndRoom := by
  unfold Obligations.MessagesWaitForTheirTurnAndRoom
  rintro s c m f carries sendable running rfl
  refine ⟨fun turn => ?_, fun idle next lacks => ?_⟩
  · rw [exec_out_of_turn carries sendable running turn, NodeLink.offer]
    simp only [NodeLink.waits_iff]
    have same : s.link.held + framePayload m =
      (s.link.inbound.map (·.payloadLength)).sum + max 46 (m.body.length + 6) := rfl
    rw [same, Config.inboundCapacity]
    split <;> rfl
  · have offered : s.link.offer m = { s.link with
        inbound := if s.link.inbound = [] then [⟨max 46 (m.body.length + 6), [m]⟩] else s.link.inbound } := by
      rcases next with empty | head
      · rw [NodeLink.offer_empty m empty, if_pos empty]; rfl
      · rw [NodeLink.offer_waiting (NodeLink.waits_of_head head), if_neg]
        intro empty
        simp [NodeLink.head, empty] at head
    have held : exec c s = .next (s.setLink (s.link.offer m)).hold := by
      rcases lacks with ⟨good, full⟩ | ⟨bad, full⟩
      · exact exec_without_room carries sendable running idle next good full
      · rw [exec_unreadable carries sendable running idle next bad, if_neg (Nat.not_le.2 full)]
    rw [held, offered]
    rfl

/-! ### The sending of a frame (R179, R188) -/

/-- Settles O10: the frame takes the bytes that `dropSent` removes, and the held request is the one that waits at the
head. -/
theorem framesSendTheOutputAsAStream : Obligations.FramesSendTheOutputAsAStream := by
  unfold Obligations.FramesSendTheOutputAsAStream
  intro s headend own running headendKnown ownKnown unsent
  obtain ⟨stream, suffix, partly, whole⟩ :=
    dropSent_spec s.output.items s.output.partSent s.output.frameBytes.length
  have sent : s.sendFrame = { s with output := s.output.sendFrame headend own } := by
    simp only [State.sendFrame, if_neg unsent, headendKnown, ownKnown]
    rfl
  have taken : exec .frameSend s = .next (s.sendFrame.takeHeld) := by
    show execFrameSend s = _
    rw [execFrameSend, State.unlessReset_running _ _ running]
  refine ⟨s.output.sendFrame headend own, fun idle => ?_, fun c m holding head carries sendable => ?_, rfl, ?_, suffix,
    fun x xs e => x.bytes_length ▸ partly x xs e, whole, rfl, rfl⟩
  · rw [taken, sent, State.takeHeld]
    split
    · rfl
    · rw [if_neg (by simp [idle])]
  · rw [exec_message carries sendable, taken, sent, State.unlessReset_running _ _ (by exact running)]
    simp only [State.takeHeld, head, holding, if_true]
    rw [NodeLink.offer_waiting (NodeLink.waits_of_head head)]
    rfl
  · have count : s.output.frameBytes.length = min 1498 s.output.unsent.length := by
      rw [OutputQueue.frameBytes, List.length_take, Config.frameMessageBytes]
    calc (s.output.sendFrame headend own).unsent = s.output.unsent.drop s.output.frameBytes.length := by
          rw [show s.output.unsent = (s.output.items.flatMap OutItem.bytes).drop s.output.partSent from rfl, List.drop_drop]; exact stream
      _ = s.output.unsent.drop 1498 := by
          rw [count]
          rcases Nat.le_total 1498 s.output.unsent.length with long | short
          · rw [min_eq_left long]
          · rw [min_eq_right short, List.drop_length, List.drop_of_length_le short]

end Machine

end Sys2Proof
end

section
/-! Time marks and their loss (chapter 1), the node's requests (section 10.4) and the channels' (chapter 2), each once its
message is taken. -/

namespace Sys2Proof.Machine

variable {s : State}

/-- A request that is taken has the room for its response, whatever the state holds beside the output queue. -/
theorem State.Ready.respond {m : Message} {room : Nat} (ready : s.Ready m room) {t : State} (m' : Message)
    (st : Status) {fs : List Byte} (fits : fs.length + 6 ≤ room) (same : t.output = s.output := by rfl) : t.respond m' st fs = t.answered m' st fs :=
  t.respond_eq_answered m' st fs (by rw [same]; exact fits.trans ready.fits)

/-! ### Time marks (R5, R6) -/

/-- Settles O14: in UNSYNCED the mark is the first one. -/
theorem firstMarkLoadsTheCounter : Obligations.FirstMarkLoadsTheCounter := by
  unfold Obligations.FirstMarkLoadsTheCounter
  intro s tag T ready unsynced
  rw [exec_timeMark_ready (by simp [writeTimeMark]) ready (readTimeMark_writeTimeMark T), State.takeMark,
    State.taken_timebase, unsynced]
  rfl

/-- A mark's end: SYNCED, with its notice out of HOLDOVER alone (R6, R7). -/
theorem State.resync_eq (synced : s.timebase.sync ≠ .unsynced) :
    s.resync = { s with
      timebase := { s.timebase with sync := .synced }
      output := if s.timebase.sync = .holdover then s.output.placeNotice s.counter (.syncRegained s.counter)
        else s.output } := by
  cases state : s.timebase.sync with
  | unsynced => exact absurd state synced
  | synced =>
    have same : s.timebase = { s.timebase with sync := .synced } := by rw [← state]
    simp only [State.resync, state, ← same, reduceCtorEq, if_false]
  | holdover =>
    simp only [State.resync, state, if_true]
    rfl

/-- Settles O15: the counter moves, the mark is noted, and HOLDOVER ends. -/
theorem nearMarkMovesOneTick : Obligations.NearMarkMovesOneTick := by
  unfold Obligations.NearMarkMovesOneTick
  rintro s tag T c ready synced near rfl
  have moved : s.taken.takeMark T = s.taken.moveMark (s.markDifference T) := by
    cases state : s.timebase.sync with
    | unsynced => exact absurd state synced
    | synced | holdover =>
      simp only [State.takeMark, State.taken_timebase, state]
      exact if_pos near
  rw [exec_timeMark_ready (by simp [writeTimeMark]) ready (readTimeMark_writeTimeMark T), moved, State.moveMark,
    State.resync_eq (by simpa using synced)]
  rfl

/-! ### The loss of the marks (R9) -/

theorem State.enterHoldover_lane (l : Fin 12) : s.enterHoldover.lane l = (s.lane l).markHoldover := by
  simp [State.enterHoldover, State.lane]

theorem exec_markTimeoutExpiry (running : s.resetHeld = false) :
    exec .markTimeoutExpiry s = .next (if s.markTimedOut then s.enterHoldover else s) := by
  show execMarkTimeoutExpiry s = _
  rw [execMarkTimeoutExpiry, State.unlessReset_running _ _ running]

theorem exec_holdoverLimitExpiry (running : s.resetHeld = false) :
    exec .holdoverLimitExpiry s = .next (if s.holdoverOver then s.loseSync else s) := by
  show execHoldoverLimitExpiry s = _
  rw [execHoldoverLimitExpiry, State.unlessReset_running _ _ running]

/-- Settles O17: the timeout acts exactly when it is due. -/
theorem markTimeoutEntersHoldover : Obligations.MarkTimeoutEntersHoldover := by
  unfold Obligations.MarkTimeoutEntersHoldover
  refine fun s running => ⟨fun synced due => ?_, fun early => ?_⟩
  · have timedOut : s.markTimedOut = true := by
      simp only [State.markTimedOut, synced, beq_self_eq_true, Bool.true_and]
      exact due
    rw [exec_markTimeoutExpiry running, if_pos timedOut]
    exact ⟨_, rfl, rfl, s.enterHoldover_lane⟩
  · have waits : s.markTimedOut = false := by
      rcases early with other | ahead
      · simp [State.markTimedOut, other]
      · exact (congrArg (_ && ·) ahead).trans (Bool.and_false _)
    rw [exec_markTimeoutExpiry running, waits]
    rfl

/-! ### The node's requests (R193, R195) -/

theorem State.nodeReset_chan (s : State) (ch : Fin 6) : s.nodeReset.chan ch = (s.chan ch).atNodeReset := by
  simp [State.nodeReset, State.chan]

/-- Settles O20: the reset acts on the answered state. -/
theorem resetNodeClearsTheReception : Obligations.ResetNodeClearsTheReception := by
  unfold Obligations.ResetNodeClearsTheReception
  intro s tag ready
  have taken := exec_resetNode_ready (by simp) ready (show readEmpty [] = some () from rfl)
  rw [ready.respond _ _ (by simp)] at taken
  refine ⟨_, taken, rfl, fun ch => State.nodeReset_chan _ ch, fun l => ?_, fun p => State.nodeReset_prof _ p⟩
  rw [State.nodeReset_lane]
  exact ⟨rfl, rfl⟩

theorem State.statusFields_length (s : State) : s.statusFields.length = 38 := by
  simp [State.statusFields, State.channelStatus, channelIds]

theorem length_filter_laneIds (p : Fin 12 → Bool) :
    (laneIds.filter p).length = (List.finRange 12).countP p := by
  rw [List.countP_eq_length_filter]
  rfl

/-- Settles O21: the fields are the lists' lengths and counts. -/
theorem statusReportsTheState : Obligations.StatusReportsTheState := by
  unfold Obligations.StatusReportsTheState
  intro s tag ready
  have fields : s.taken.statusFields.length + 6 ≤ 44 := by rw [State.statusFields_length]
  rw [exec_statusGet_ready (by simp) ready (show readEmpty [] = some () from rfl),
    ready.respond _ _ fields]
  congr 2
  simp only [State.statusFields, channelIds, State.freeLanes, length_filter_laneIds, State.profileCount,
    OutputQueue.fill, OutItem.bytes_length, List.flatMap_cons, List.flatMap_nil, List.append_nil, List.append_assoc]
  simp only [State.channelStatus, State.lanesOf, length_filter_laneIds, List.append_assoc]
  rfl

/-! ### The channels' requests (R17 to R23) -/

theorem State.onChannel_of_lt (s : State) (m : Message) (ch : Fin 6) (fs : List Byte) (act : State → Fin 6 → State) :
    s.onChannel m ch.val fs act = act s ch := dif_pos ch.isLt

theorem State.onChannel_outside (s : State) (m : Message) {ch : Nat} (outside : 6 ≤ ch) (fs : List Byte)
    (act : State → Fin 6 → State) : s.onChannel m ch fs act = s.respond m .badChannel fs :=
  dif_neg (Nat.not_lt.2 outside)

theorem writeChannelSet_length (c : ChannelSettings) : (writeChannelSet c).length = 8 := by
  simp [writeChannelSet]

theorem writeChannel_length (ch : Nat) : (writeChannel ch).length = 1 := by simp [writeChannel]

theorem writeSchedule_length (ch : Nat) (gs : List Grant) : (writeSchedule ch gs).length = 8 * gs.length + 2 := by
  simp [writeSchedule, writeGrant, List.length_flatMap]
  omega

/-- Settles O22: each request reads, and its channel test refuses it. -/
theorem requestsOutsideTheChannelsAreRefused : Obligations.RequestsOutsideTheChannelsAreRefused := by
  unfold Obligations.RequestsOutsideTheChannelsAreRefused
  intro s tag ch outside byte
  have channel := readChannel_writeChannel byte
  have short : (writeChannel ch).length ≤ 1494 := by simp [writeChannel_length]
  refine ⟨?_, fun ready => ?_, fun ready => ?_, fun ready => ?_, fun g low high some_ most ready => ?_⟩
  · rintro c rfl ready
    rw [exec_channelSet_ready (by simp [writeChannelSet_length]) ready (readChannelSet_writeChannelSet c byte),
      State.onChannel_outside _ _ outside, ready.respond _ _ (by simp)]
  · rw [exec_channelStart_ready short ready channel, State.onChannel_outside _ _ outside,
      ready.respond _ _ (by simp)]
  · rw [exec_channelStop_ready short ready channel, State.onChannel_outside _ _ outside,
      ready.respond _ _ (by simp)]
  · rw [exec_channelHalt_ready short ready channel, State.onChannel_outside _ _ outside,
      ready.respond _ _ (by simp)]
    rfl
  · have reads := readSchedule_writeSchedule byte (gs := [g]) (by simp) (by simp)
      (by simpa using ⟨low, high, some_, most⟩)
    rw [exec_schedule_ready (by simp [writeSchedule_length]) ready reads, State.onChannel_outside _ _ outside,
      ready.respond _ _ (by simp)]
    rfl

/-- Settles O23: the operation's one test is whether the channel is active. -/
theorem channelSetReplacesTheSettings : Obligations.ChannelSetReplacesTheSettings := by
  unfold Obligations.ChannelSetReplacesTheSettings
  intro s tag ch c channel ready
  have taken := exec_channelSet_ready (by simp [writeChannelSet_length]) ready
    (readChannelSet_writeChannelSet c (by omega))
  rw [channel, State.onChannel_of_lt] at taken
  refine ⟨fun quiet => ?_, fun active => ?_⟩
  · have inactive : (s.chan ch).state.active = false := by rcases quiet with h | h <;> rw [h] <;> rfl
    rw [taken, State.channelSet, State.taken_chan, if_neg (by simp [inactive]), ready.respond _ _ (by simp)]
    rfl
  · have busy : (s.chan ch).state.active = true := by rcases active with h | h <;> rw [h] <;> rfl
    rw [taken, State.channelSet, State.taken_chan, if_pos busy, ready.respond _ _ (by simp)]

/-- Settles O24: by the channel's state, and in READY by the sync state. -/
theorem channelStartRunsAReadyChannel : Obligations.ChannelStartRunsAReadyChannel := by
  unfold Obligations.ChannelStartRunsAReadyChannel
  intro s tag ch ready
  rw [exec_channelStart_ready (by simp [writeChannel_length]) ready (readChannel_writeChannel (by omega)),
    State.onChannel_of_lt, State.channelStart, State.taken_chan]
  cases (s.chan ch).state with
  | off | running | stopping => exact congrArg _ (ready.respond _ _ (by simp))
  | ready =>
    cases sync : s.timebase.sync with
    | unsynced =>
      simp only [State.taken_timebase, sync, if_true]
      exact congrArg _ (ready.respond _ _ (by simp))
    | synced | holdover =>
      simp only [State.taken_timebase, sync, reduceCtorEq, if_false]
      exact congrArg _ (ready.respond _ _ (by simp))

theorem State.settle_of_empty {ch : Fin 6} (stopping : (s.chan ch).state = .stopping) (empty : s.queue ch = [])
    (idle : ∀ l, s.serves l ch = false) : s.settle ch = s.setChanState ch .ready :=
  if_pos ⟨stopping, empty, State.lanesOf_eq_nil.2 idle⟩

theorem State.settle_of_busy {ch : Fin 6} (busy : s.queue ch ≠ [] ∨ ∃ l, s.serves l ch = true) : s.settle ch = s := by
  refine if_neg ?_
  rintro ⟨-, empty, idle⟩
  rcases busy with waits | ⟨l, serves⟩
  · exact waits empty
  · rw [State.lanesOf_eq_nil.1 idle l] at serves
    cases serves

theorem State.setChanState_serves (s : State) (ch : Fin 6) (x : ChannelState) (l : Fin 12) (k : Fin 6) :
    (s.setChanState ch x).serves l k = s.serves l k := rfl

/-- Settles O25: by the channel's state, and in RUNNING by what the channel still has. -/
theorem channelStopDrainsAChannel : Obligations.ChannelStopDrainsAChannel := by
  unfold Obligations.ChannelStopDrainsAChannel
  intro s tag ch ready
  rw [exec_channelStop_ready (by simp [writeChannel_length]) ready (readChannel_writeChannel (by omega)),
    State.onChannel_of_lt, State.channelStop, State.taken_chan]
  refine ⟨fun running empty idle => ?_, fun running busy => ?_, fun quiet => ?_, fun off => ?_⟩
  · have settled : (s.taken.setChanState ch .stopping).settle ch =
        (s.taken.setChanState ch .stopping).setChanState ch .ready :=
      State.settle_of_empty (by simp) (by simpa using empty) idle
    simp only [running, settled]
    rw [ready.respond _ _ (by simp)]
    simp [State.answered, State.setChanState, State.setChan, State.chan, State.taken]
  · have waits : (s.taken.setChanState ch .stopping).settle ch = s.taken.setChanState ch .stopping :=
      State.settle_of_busy (by simpa [State.setChanState_serves] using busy)
    simp only [running, waits]
    exact congrArg _ (ready.respond _ _ (by simp))
  · rcases quiet with h | h <;> rw [h] <;> exact congrArg _ (ready.respond _ _ (by simp))
  · rw [off]
    exact congrArg _ (ready.respond _ _ (by simp))

end Sys2Proof.Machine
end

section
/-! NODE SET (sections 1.6 and 10.4): its settings, the expiry that they leave reached, and the alignment of the ages. -/

namespace Sys2Proof.Machine

variable {s : State}

/-! ### What a halt and the loss of sync leave alone (R10, R23) -/

theorem State.flush_frame (s : State) (ch : Fin 6) : Frame s (s.flush ch) := (Act.queue ch []).apply_frame s

/-- Every abort but that of a step or of the input's loss keeps to the frame of the reception. -/
theorem State.haltChannel_frame {c : AbortCause} (hstep : c ≠ .timebaseStep) (hinput : c ≠ .inputLost) (s : State)
    (ch : Fin 6) : Frame s (s.haltChannel ch c) :=
  ((s.flush_frame ch).trans
    (State.abortLanes_aborting (ls := (s.flush ch).lanesOf ch) hstep hinput false _ (s.flush ch) fun _ => id).frame).trans
    ((Act.ready ch).apply_frame _)

theorem State.haltIfActive_frame (s : State) (ch : Fin 6) : Frame s (s.haltIfActive ch) := by
  unfold State.haltIfActive
  split
  · exact s.haltChannel_frame (by decide) (by decide) ch
  · exact Frame.rfl s

theorem foldl_frame {α : Type} {f : State → α → State} (step : ∀ s a, Frame s (f s a)) :
    ∀ (l : List α) (s : State), Frame s (l.foldl f s)
  | [], s => Frame.rfl s
  | a :: l, s => (step s a).trans (foldl_frame step l (f s a))

theorem State.loseSync_frame (s : State) :
    Frame ((s.setSync .unsynced).notify (.syncLost s.timebase.holdoverStart)) s.loseSync :=
  foldl_frame State.haltIfActive_frame _ _

/-! ### The expiry of a reached deadline (R14) -/

/-- What an expiry never touches. -/
structure ExpiryFrame (s t : State) : Prop where
  counter : t.counter = s.counter
  sweep : t.sweep = s.sweep

theorem State.expireNow_frame (s : State) : ExpiryFrame s s.expireNow := by
  unfold State.expireNow
  split
  · exact ⟨State.notify_counter _ _, State.notify_sweep _ _⟩
  · split
    · have frame := s.loseSync_frame
      exact ⟨(congrArg Timebase.counter frame.timebase).trans (State.notify_counter _ _),
        frame.sweep.trans (State.notify_sweep _ _)⟩
    · exact ⟨rfl, rfl⟩

theorem State.expireNow_unsynced (unsynced : s.timebase.sync = .unsynced) : s.expireNow = s := by
  simp [State.expireNow, State.markTimedOut, State.holdoverOver, unsynced]

theorem State.expireNow_synced (synced : s.timebase.sync = .synced) :
    s.expireNow = if s.markTimedOut then s.enterHoldover else s := by
  simp [State.expireNow, State.holdoverOver, synced]

theorem State.expireNow_holdover (holdover : s.timebase.sync = .holdover) :
    s.expireNow = if s.holdoverOver then s.loseSync else s := by
  simp [State.expireNow, State.markTimedOut, holdover]

/-! ### The alignment of the ages (R142) -/

/-- The profile turns STALE at the alignment: it is BOUND and its age is at or above the limit. -/
def Profile.outdated (x : Profile) (limit : Nat) : Bool := x.state == .bound && decide (limit ≤ x.age)

theorem Profile.aligned_eq (x : Profile) (limit : Nat) : x.aligned limit =
    if x.state = .bound ∧ limit ≤ x.age then { x with state := .stale, age := limit }
    else if x.state = .stale then { x with age := limit } else x := by
  unfold Profile.aligned
  cases x.state with
  | bound => by_cases old : limit ≤ x.age <;> simp [old]
  | free | stale | retiring => simp

theorem State.alignProfile_eq (s : State) (p : Fin 384) : s.alignProfile p =
    { s with
      profiles := (s.alignProfile p).profiles
      output := if (s.prof p).outdated s.sweep.ageLimit then
          s.output.placeNotice s.counter (.profileStale p (s.prof p).key)
        else s.output } := by
  unfold State.alignProfile Profile.outdated
  cases state : (s.prof p).state with
  | bound =>
    by_cases old : s.sweep.ageLimit ≤ (s.prof p).age
    · simp only [state, if_pos old, decide_eq_true old, beq_self_eq_true, Bool.and_self, if_true]
      rfl
    · simp only [state, if_neg old, decide_eq_false old, Bool.and_false, Bool.false_eq_true, if_false]
  | free | stale | retiring => simp only [state]; rfl

/-- The alignment of a list of profiles changes profiles, and places the notices of those that turn STALE in order. -/
theorem alignProfile_foldl_eq : ∀ (ps : List (Fin 384)) (s : State), ps.Nodup →
    ps.foldl State.alignProfile s =
      { s with
        profiles := (ps.foldl State.alignProfile s).profiles
        output := s.output.placeAll s.counter ((ps.filter fun p => (s.prof p).outdated s.sweep.ageLimit).map
          fun p => .notice (.profileStale p (s.prof p).key)) }
  | [], s, _ => rfl
  | p :: ps, s, distinct => by
    obtain ⟨fresh, distinct⟩ := List.nodup_cons.1 distinct
    have rest := alignProfile_foldl_eq ps (s.alignProfile p) distinct
    have same : ∀ q ∈ ps, (s.alignProfile p).prof q = s.prof q := fun q hq => by
      rw [s.alignProfile_prof, if_neg (by rintro rfl; exact fresh hq)]
    have one := s.alignProfile_eq p
    have sweep : (s.alignProfile p).sweep = s.sweep := by rw [one]
    have counter : (s.alignProfile p).counter = s.counter := by rw [one]; rfl
    have notices : (ps.filter fun q => ((s.alignProfile p).prof q).outdated s.sweep.ageLimit).map
          (fun q => Handed.notice (.profileStale q ((s.alignProfile p).prof q).key)) =
        (ps.filter fun q => (s.prof q).outdated s.sweep.ageLimit).map
          fun q => Handed.notice (.profileStale q (s.prof q).key) := by
      rw [List.filter_congr fun q hq => by rw [same q hq]]
      exact List.map_congr_left fun q hq => by rw [same q (List.mem_of_mem_filter hq)]
    rw [sweep, counter, notices] at rest
    rw [List.foldl_cons, rest, one]
    by_cases old : (s.prof p).outdated s.sweep.ageLimit <;>
      simp [old, OutputQueue.placeAll, OutputQueue.placeHanded]

theorem State.alignAges_eq (s : State) : s.alignAges =
    { s with
      profiles := s.alignAges.profiles
      output := s.output.placeAll s.counter ((profileIds.filter fun p => (s.prof p).outdated s.sweep.ageLimit).map
        fun p => .notice (.profileStale p (s.prof p).key)) } :=
  alignProfile_foldl_eq profileIds s (List.nodup_finRange 384)

theorem State.alignAges_prof (s : State) (p : Fin 384) : s.alignAges.prof p = (s.prof p).aligned s.sweep.ageLimit :=
  ((alignProfile_foldl profileIds s).1 p).trans (if_pos (List.mem_finRange p))

/-! ### NODE SET (R194) -/

theorem visitInterval_eq (period : Nat) : visitInterval period = period * 25600000 / 384 := rfl

theorem writeNodeSet_length (n : NodeSettings) : (writeNodeSet n).length = 9 := by simp [writeNodeSet]

/-- Settles O19: the answered state with the new settings expires, is aligned, and has its visit re-formed. -/
theorem nodeSetStoresClampedSettings : Obligations.NodeSetStoresClampedSettings := by
  unfold Obligations.NodeSetStoresClampedSettings
  intro s w tag n v ready h1 h2 h3 h4 h5 clamped answered
  have clamps : clampSettings n = v := clamped.symm
  have stored : (s.taken.applySettings v).respond ⟨kindNodeSet, tag, writeNodeSet n⟩ (clampStatus (decide (v ≠ n))) [] =
      w := by
    rw [ready.respond _ _ (by simp), answered]
    by_cases same : v = n
    · simp [same, clampStatus, State.answered, State.applySettings, State.setTimebase, State.setSweep, State.taken]
    · simp [same, clampStatus, State.answered, State.applySettings, State.setTimebase, State.setSweep, State.taken]
  have running : w.resetHeld = false := by rw [answered]; exact ready.running
  have sync : w.timebase.sync = s.timebase.sync := by rw [answered]
  have sweep : w.expireNow.sweep = { s.sweep with ageingPeriod := v.ageingPeriod, ageLimit := v.ageLimit } := by
    rw [w.expireNow_frame.sweep, answered]
  have counter : w.expireNow.counter = s.timebase.counter := by rw [w.expireNow_frame.counter, answered]; rfl
  have limit : w.expireNow.sweep.ageLimit = v.ageLimit := by rw [sweep]
  have taken := exec_nodeSet_ready (by simp [writeNodeSet_length]) ready (readNodeSet_writeNodeSet n h1 h2 h3 h4 h5)
  simp only [State.nodeSet, clamps, stored, State.taken_sweep, decide_eq_true_eq,
    visitInterval_eq] at taken
  refine ⟨_, w.expireNow, taken, fun state => State.expireNow_unsynced (sync.trans state), fun state => ?_, fun state => ?_,
    ?_, fun same => ?_, fun changed => ?_⟩
  · rw [exec_markTimeoutExpiry running, State.expireNow_synced (sync.trans state)]
  · rw [exec_holdoverLimitExpiry running, State.expireNow_holdover (sync.trans state)]
  · by_cases changed : v.ageLimit ≠ s.sweep.ageLimit
    · rw [if_pos changed, State.alignAges_eq]
      simp only [State.setSweep, sweep, State.counter] at counter ⊢
      rw [counter]
    · rw [if_neg changed]
      simp only [State.setSweep, sweep, State.counter] at counter ⊢
      rw [counter]
  · rw [if_neg (not_not.2 same)]
    exact ⟨State.setSweep_profiles _ _, State.setSweep_output _ _⟩
  · rw [if_pos changed]
    refine ⟨fun p => ?_, ?_⟩
    · rw [State.setSweep_prof, State.alignAges_prof, Profile.aligned_eq, limit]
    · rw [State.setSweep_output, State.alignAges_eq, limit, counter]
      simp only [profileIds, Profile.outdated]

end Sys2Proof.Machine
end

section
/-! The intake of a SCHEDULE (section 3.2): the tests of one grant as a chain of first causes, and the grants of a list in
their order. -/

namespace Sys2Proof.Machine

variable {s : State}

/-! ### Queues written -/

theorem State.setQueue_self (s : State) (ch : Fin 6) : s.setQueue ch (s.queue ch) = s := by
  have same : s.channels.set ch (s.chan ch) = s.channels := Vector.set_getElem_self ..
  show { s with channels := s.channels.set ch (s.chan ch) } = s
  rw [same]

theorem State.setQueue_setQueue (s : State) (ch : Fin 6) (q q' : List QueuedGrant) :
    (s.setQueue ch q).setQueue ch q' = s.setQueue ch q' := by
  simp only [State.setQueue, State.setChan_chan, if_true]
  simp [State.setChan]

/-! ### The tests of one grant (R39 to R43) -/

/-- The grant does not continue the chain of a CHAIN predecessor (R41). -/
def State.breaksChain (s : State) (ch : Fin 6) (g : Grant) : Bool :=
  (s.predecessor ch).any fun p => p.1.grant.chain &&
    !decide (p.1.grant.station = g.station ∧ g.start = p.1.grant.start + BitVec.ofNat 32 p.1.grant.length ∧
      (s.chan ch).classes[g.cls].modulation = (s.chan ch).classes[p.1.grant.cls].modulation)

/-- The start tick lies before the predecessor's end tick, or 2^31 or more beyond it (R42, log entry 38). -/
def State.outOfOrder (s : State) (ch : Fin 6) (start : Tick) : Bool :=
  (s.predecessor ch).any fun p => ahead p.1.endTick start || start - p.1.endTick == BitVec.ofNat 32 (2 ^ 31)

/-- The link mark of a grant that joins the queue (R41). -/
def State.linkMark (s : State) (ch : Fin 6) : Bool :=
  match s.predecessor ch with
  | none => false
  | some (p, receiving) => p.grant.chain && receiving

/-- What the queue holds of a grant that passes (R35, R41). -/
def State.admitted (s : State) (ch : Fin 6) (g : Grant) : QueuedGrant := s.derive ch (admitGrant g) (s.linkMark ch)

theorem admitGrant_fields (g : Grant) : (admitGrant g).station = g.station ∧ (admitGrant g).start = g.start ∧
    (admitGrant g).length = g.length ∧ (admitGrant g).cls = g.cls := by
  unfold admitGrant
  split <;> exact ⟨rfl, rfl, rfl, rfl⟩

theorem State.chainTest_eq (s : State) (ch : Fin 6) (g : Grant) :
    s.chainTest ch g = if s.breaksChain ch g then none else some (s.linkMark ch) := by
  unfold State.chainTest State.breaksChain State.linkMark State.classOf
  cases s.predecessor ch with
  | none => rfl
  | some p =>
    obtain ⟨p, receiving⟩ := p
    cases chain : p.grant.chain with
    | false => simp [chain]
    | true =>
      simp only [chain, if_true, Option.any_some, Bool.true_and, Bool.not_eq_true', decide_eq_false_iff_not]
      split_ifs <;> rfl

theorem State.inOrder_eq (s : State) (ch : Fin 6) (q : QueuedGrant) : s.inOrder ch q = !s.outOfOrder ch q.startTick := by
  unfold State.inOrder State.outOfOrder
  cases s.predecessor ch with
  | none => rfl
  | some p =>
    simp only [lt_half_iff_not_ahead, Option.any_some]
    cases ahead p.1.endTick q.startTick with
    | true => simp
    | false => simp; rfl

theorem State.breaksChain_admitGrant (s : State) (ch : Fin 6) (g : Grant) :
    s.breaksChain ch (admitGrant g) = s.breaksChain ch g := by
  unfold admitGrant
  split <;> rfl

/-- The tests of intake as one chain of first causes: the grant itself is read, admitted or not. -/
theorem State.judgeGrant_eq (s : State) (ch : Fin 6) (g : Grant) : s.judgeGrant ch g =
    if (s.chan ch).classes[g.cls].valid = false ∨ s.patterns[(s.chan ch).classes[g.cls].preamble] = [] then .error .badClass
    else if g.length * (s.chan ch).spm.spm < (s.chan ch).classes[g.cls].lp + (s.chan ch).classes[g.cls].guardLen + 1 then
      .error .badLength
    else if s.breaksChain ch g then .error .grantChain
    else if s.outOfOrder ch (s.admitted ch g).startTick then .error .grantOrder
    else if s.reached (s.admitted ch g).armTick then .error .grantLate
    else if 48 ≤ (s.queue ch).length then .error .queueFull
    else .ok (s.admitted ch g) := by
  simp only [State.judgeGrant, State.classOf, State.chainTest_eq, State.breaksChain_admitGrant, State.inOrder_eq,
    Bool.not_not]
  cases s.breaksChain ch g <;> rfl

theorem State.judgeGrant_grant {ch : Fin 6} {g : Grant} {q : QueuedGrant} (passes : s.judgeGrant ch g = .ok q) :
    q.grant = admitGrant g := by
  rw [s.judgeGrant_eq] at passes
  split_ifs at passes
  cases passes
  rfl

/-! ### The grants of a list (R38) -/

/-- An open grant that carries CHAIN is queued without it, which clamps (R41). -/
def dropsChain (g : Grant) : Bool := g.station == 16383 && g.chain

theorem admitGrant_eq_self_iff (g : Grant) : admitGrant g = g ↔ dropsChain g = false := by
  obtain ⟨station, start, length, cls, ranging, chain, writeback⟩ := g
  by_cases isOpen : station = 16383 <;> cases chain <;> simp [admitGrant, dropsChain, isOpen]

/-- The intake of a list queues what it accepts, in list order, and stops at the first refusal. -/
structure Intake (s : State) (ch : Fin 6) (gs : List Grant) (b : Bool) (qs : List QueuedGrant) (status : Status) : Prop where
  length : qs.length ≤ gs.length
  grants : qs.map (·.grant) = (gs.take qs.length).map admitGrant
  passed : ∀ (i : Nat) (g : Grant) (q : QueuedGrant), gs[i]? = some g → qs[i]? = some q →
    (s.setQueue ch (s.queue ch ++ qs.take i)).judgeGrant ch g = .ok q
  all : qs.length = gs.length → status = if b || gs.any dropsChain then .clamped else .ok
  refused : ∀ g, gs[qs.length]? = some g → (s.setQueue ch (s.queue ch ++ qs)).judgeGrant ch g = .error status

theorem intake_spec (ch : Fin 6) : ∀ (gs : List Grant) (s : State) (n : Nat) (b : Bool),
    ∃ (qs : List QueuedGrant) (status : Status),
      intake ch gs s n b = (s.setQueue ch (s.queue ch ++ qs), status, n + qs.length) ∧ Intake s ch gs b qs status
  | [], s, n, b => by
    refine ⟨[], if b then .clamped else .ok, ?_, ⟨le_rfl, rfl, by simp, by simp, by simp⟩⟩
    rw [List.append_nil, s.setQueue_self]
    rfl
  | g :: gs, s, n, b => by
    cases judged : s.judgeGrant ch g with
    | error e =>
      refine ⟨[], e, ?_, ⟨by simp, rfl, by simp, by simp, ?_⟩⟩
      · rw [List.append_nil, s.setQueue_self, intake, judged]; rfl
      · rintro _ ⟨rfl⟩
        rw [List.append_nil, s.setQueue_self, judged]
    | ok q =>
      obtain ⟨qs, status, rest, spec⟩ := intake_spec ch gs (s.setQueue ch (s.queue ch ++ [q])) (n + 1) (b || dropsChain g)
      obtain ⟨length, grants, passed, all, refused⟩ := spec
      simp only [State.setQueue_setQueue, State.setQueue_queue, if_true, List.append_assoc, List.cons_append,
        List.nil_append] at rest passed refused
      refine ⟨q :: qs, status, ?_, ⟨by simpa using length, ?_, ?_, ?_, by simpa using refused⟩⟩
      · rw [intake, judged]
        refine rest.trans ?_
        simp only [List.length_cons, Nat.add_assoc, Nat.add_comm 1]
      · simp [grants, State.judgeGrant_grant judged]
      · rintro (_ | i) g' q' hg hq
        · cases hg
          cases hq
          rw [List.take_zero, List.append_nil, s.setQueue_self, judged]
        · exact passed i g' q' hg hq
      · intro whole
        rw [all (by simpa using whole), List.any_cons, Bool.or_assoc]

/-! ### SCHEDULE once it is taken (R37, R38) -/

/-- A SCHEDULE on a RUNNING channel. -/
theorem exec_schedule_running {tag : Byte} {ch : Fin 6} {gs : List Grant}
    (ready : s.Ready ⟨kindSchedule, tag, writeSchedule ch gs⟩ 8) (running : (s.chan ch).state = .running)
    (some_ : 1 ≤ gs.length) (most : gs.length ≤ 32)
    (fit : ∀ g ∈ gs, 1 ≤ g.station ∧ g.station ≤ 16383 ∧ 1 ≤ g.length ∧ g.length ≤ 255) {qs : List QueuedGrant}
    {status : Status} {n : Nat}
    (judged : intake ch gs s 0 false = (s.setQueue ch (s.queue ch ++ qs), status, n)) :
    exec (.schedule tag (writeSchedule ch gs)) s =
      .next { s.taken.answered ⟨kindSchedule, tag, writeSchedule ch gs⟩ status
          (beBytes 1 n ++ beBytes 1 (48 - (s.queue ch ++ qs).length)) with
        channels := s.channels.set ch { s.chan ch with queue := s.queue ch ++ qs } } := by
  have taken : ∀ (gs : List Grant) (u : State) (k : Nat) (b : Bool),
      intake ch gs u.taken k b = ((intake ch gs u k b).1.taken, (intake ch gs u k b).2) := by
    intro gs
    induction gs with
    | nil => exact fun u k b => rfl
    | cons g gs ih =>
      intro u k b
      simp only [intake]
      rw [show u.taken.judgeGrant ch g = u.judgeGrant ch g from rfl]
      cases u.judgeGrant ch g with
      | error e => rfl
      | ok q => exact ih (u.setQueue ch (u.queue ch ++ [q])) _ _
  have reads := readSchedule_writeSchedule (ch := ch.val) (by omega) some_ most fit
  rw [exec_schedule_ready (by rw [writeSchedule_length]; omega) ready reads, State.onChannel_of_lt, State.schedule,
    State.taken_chan, if_pos running]
  simp only [taken, judged]
  rw [ready.respond _ _ (by simp)]
  simp only [State.freePlaces, State.taken_queue, State.setQueue_queue, if_true]
  rfl

/-- Settles O27: every test passes, and the derived values are those of `State.derive`. -/
theorem anAcceptedGrantJoinsTheQueue : Obligations.AnAcceptedGrantJoinsTheQueue := by
  unfold Obligations.AnAcceptedGrantJoinsTheQueue
  rintro s tag ch g _ q ready running low high some_ most valid stored long chained ordered early room rfl derived
  have start : q.startTick = (s.admitted ch g).startTick := by
    rw [derived]
    show _ = (s.chan ch).epoch + (admitGrant g).start * _
    rw [(admitGrant_fields g).2.1]
    rfl
  have admitted : q = s.admitted ch g := by
    obtain ⟨-, minislot, length, cls⟩ := admitGrant_fields g
    rw [derived, start]
    simp only [State.admitted, State.derive, State.classOf, minislot, length, cls]
    rfl
  have keeps : s.breaksChain ch g = false := by
    unfold State.breaksChain
    cases pred : s.predecessor ch with
    | none => rfl
    | some p =>
      cases chain : p.1.grant.chain with
      | false => simp [chain]
      | true =>
        rw [Option.any_some, chain, decide_eq_true (chained p.1 p.2 pred chain)]
        rfl
  have usable : ¬((s.chan ch).classes[g.cls].valid = false ∨ s.patterns[(s.chan ch).classes[g.cls].preamble] = []) := by
    rintro (invalid | empty)
    · rw [valid] at invalid; cases invalid
    · exact stored empty
  have follows : s.outOfOrder ch (s.admitted ch g).startTick = false := by
    have := s.inOrder_eq ch (s.admitted ch g)
    rw [State.inOrder_iff.2 (start ▸ ordered)] at this
    simpa using this.symm
  have judged : s.judgeGrant ch g = .ok q := by
    rw [s.judgeGrant_eq, if_neg usable, if_neg (Nat.not_lt.2 long), keeps, follows, ← admitted, early]
    simp only [Bool.false_eq_true, if_false]
    rw [if_neg (by omega)]
  have queued : intake ch [g] s 0 false =
      (s.setQueue ch (s.queue ch ++ [q]), if dropsChain g then .clamped else .ok, 1) := by
    simp only [intake, judged]
    rfl
  rw [exec_schedule_running ready running (by simp) (by simp) (by simpa using ⟨low, high, some_, most⟩) queued]
  have status : (if (if g.station = 16383 then { g with chain := false } else g) = g then Status.ok else .clamped) =
      if dropsChain g then .clamped else .ok := by
    have := admitGrant_eq_self_iff g
    unfold admitGrant at this
    simp only [this]
    cases dropsChain g <;> rfl
  rw [status, List.length_append]
  rfl

/-- Settles O28: the chain of first causes of `State.judgeGrant_eq`, behind the test of the channel's state. -/
theorem schedulesAreRefusedByTheFirstCause : Obligations.SchedulesAreRefusedByTheFirstCause := by
  unfold Obligations.SchedulesAreRefusedByTheFirstCause
  intro s tag ch g start arm status ready low high some_ most starts arms cause refused
  have fit : ∀ x ∈ [g], 1 ≤ x.station ∧ x.station ≤ 16383 ∧ 1 ≤ x.length ∧ x.length ≤ 255 := by
    simpa using ⟨low, high, some_, most⟩
  by_cases running : (s.chan ch).state = .running
  · have startTick : (s.admitted ch g).startTick = start := by
      rw [starts]
      show (s.chan ch).epoch + (admitGrant g).start * _ = _
      rw [(admitGrant_fields g).2.1]
      rfl
    have armTick : (s.admitted ch g).armTick = arm := by
      rw [arms, ← startTick]
      rfl
    have judged : s.judgeGrant ch g = .error status := by
      rw [s.judgeGrant_eq, startTick, armTick, State.breaksChain, State.outOfOrder]
      rw [if_neg (not_not.2 running)] at cause
      split_ifs at cause ⊢
      on_goal 7 => exact absurd cause refused
      all_goals rw [cause]
    have queued : intake ch [g] s 0 false = (s.setQueue ch (s.queue ch ++ []), status, 0) := by
      rw [List.append_nil, s.setQueue_self, intake, judged]
    rw [exec_schedule_running ready running (by simp) (by simp) fit queued, List.append_nil]
    have same : s.channels.set ch { s.chan ch with queue := s.queue ch } = s.channels := Vector.set_getElem_self ..
    rw [same]
    rfl
  · rw [if_pos running] at cause
    have reads := readSchedule_writeSchedule (ch := ch.val) (gs := [g]) (by omega) (by simp) (by simp) fit
    rw [exec_schedule_ready (by simp [writeSchedule_length]) ready reads, State.onChannel_of_lt, State.schedule,
      State.taken_chan, if_neg running, ready.respond _ _ (by simp), cause]
    rfl

/-- Settles O29: the law of the intake of a list. -/
theorem intakeStopsAtTheFirstRefusal : Obligations.IntakeStopsAtTheFirstRefusal := by
  unfold Obligations.IntakeStopsAtTheFirstRefusal
  intro s tag ch gs ready running some_ most fit
  obtain ⟨qs, status, judged, length, grants, passed, all, refused⟩ := intake_spec ch gs s 0 false
  rw [Nat.zero_add] at judged
  exact ⟨qs, status, exec_schedule_running ready running some_ most fit judged, length, grants, passed, all, refused⟩

end Sys2Proof.Machine
end

section
/-! The profile requests, the directory's listing and the visit of the sweep (chapter 7), each once its message is taken. -/

namespace Sys2Proof.Machine

variable {s : State}

/-! ### The directory (R127, R128, R129) -/

/-- The new entry joins before the first greater key. -/
theorem insertEntry_eq (e : DirEntry) (d : List DirEntry) : insertEntry e d =
    (d.takeWhile fun x => !Key.lt e.key x.key) ++ [e] ++ d.dropWhile fun x => !Key.lt e.key x.key := by
  induction d with
  | nil => rfl
  | cons x xs ih =>
    cases before : Key.lt e.key x.key with
    | true => simp [insertEntry, before]
    | false => simp [insertEntry, before, ih]

theorem State.lookup_isSome {k : Key} : (s.lookup k).isSome = true ↔ ∃ e ∈ s.directory, e.key = k := by
  simp [State.lookup]

theorem State.lookup_of_absent {k : Key} (absent : ∀ e ∈ s.directory, e.key ≠ k) : s.lookup k = none := by
  rw [← Option.not_isSome_iff_eq_none, State.lookup_isSome]
  rintro ⟨e, listed, same⟩
  exact absent e listed same

theorem clampNat_eq_self {lo hi v : Nat} (le : lo ≤ hi) : clampNat lo hi v = v ↔ lo ≤ v ∧ v ≤ hi := by
  unfold clampNat; omega

/-! ### PROFILE BIND and UNBIND (R130 to R132) -/

theorem writeProfileBind_length (r : BindRequest) : (writeProfileBind r).length = 7 := by simp [writeProfileBind]

/-- Settles O30: the operation's tests stand in this order. -/
theorem bindTakesAFreeProfile : Obligations.BindTakesAFreeProfile := by
  unfold Obligations.BindTakesAFreeProfile
  rintro s tag r m rfl ready low high channel profile limit
  have taken := exec_profileBind_ready (by simp [writeProfileBind_length]) ready
    (readProfileBind_writeProfileBind r low high channel profile limit)
  unfold State.bind at taken
  refine ⟨fun outside => ?_, fun inside outside => ?_, fun ch p named indexed => ?_⟩
  · rw [taken, dif_neg (by omega), ready.respond _ _ (by simp)]
  · rw [taken, dif_pos inside, dif_neg (by omega), ready.respond _ _ (by simp)]
  · obtain ⟨station, channel', profile', revertLimit, keep⟩ := r
    obtain rfl : channel' = ch.val := named
    obtain rfl : profile' = p.val := indexed
    rw [taken, dif_pos ch.isLt, dif_pos p.isLt]
    simp only [State.lookup_isSome, State.taken_lookup, Fin.eta, State.taken_directory, State.taken_prof,
      clampNat_eq_self (show 1 ≤ 7 by omega), Config.directoryDepth]
    by_cases bound : ∃ e ∈ s.directory, e.key = ⟨station, ch⟩
    · rw [if_pos bound, if_pos bound, ready.respond _ _ (by simp)]
    · rw [if_neg bound, if_neg bound]
      by_cases full : 384 ≤ s.directory.length
      · rw [if_pos full, if_pos full, ready.respond _ _ (by simp)]
      · rw [if_neg full, if_neg full]
        by_cases used : (s.prof p).state ≠ .free
        · rw [if_pos used, if_pos used, ready.respond _ _ (by simp)]
        · rw [if_neg used, if_neg used, ready.respond _ _ (by simp), insertEntry_eq]
          rfl

theorem writeProfileUnbind_length (station ch : Nat) : (writeProfileUnbind station ch).length = 3 := by
  simp [writeProfileUnbind]

/-- Settles O31: by the channel, then by the key's entry. -/
theorem unbindFreesOrRetiresTheProfile : Obligations.UnbindFreesOrRetiresTheProfile := by
  unfold Obligations.UnbindFreesOrRetiresTheProfile
  rintro s tag station c m rfl ready low high
  have taken (byte : c < 256) := exec_profileUnbind_ready (by simp [writeProfileUnbind_length]) ready
    (readProfileUnbind_writeProfileUnbind low high byte)
  unfold State.unbind at taken
  refine ⟨fun outside byte => ?_, ?_⟩
  · rw [taken byte, dif_neg (by simpa using outside), ready.respond _ _ (by simp)]
  · rintro ch rfl
    refine ⟨fun absent => ?_, fun p found => ?_⟩
    · rw [taken (by omega), dif_pos ch.isLt]
      simp only [State.taken_lookup, State.lookup_of_absent absent]
      rw [ready.respond _ _ (by simp)]
    · rw [taken (by omega), dif_pos ch.isLt]
      simp only [State.taken_lookup, found]
      rw [ready.respond _ _ (by simp)]
      rfl

/-! ### PROFILE REVERT and CLEAR (R135, R136) -/

theorem State.onBoundProfile_outside (m : Message) {i : Nat} (outside : 384 ≤ i) (change : Profile → Profile) :
    s.onBoundProfile m i change = s.respond m .badIndex [] := dif_neg (Nat.not_lt.2 outside)

theorem State.onBoundProfile_unbound (m : Message) {p : Fin 384} (change : Profile → Profile)
    (unbound : (s.prof p).state = .free ∨ (s.prof p).state = .retiring) :
    s.onBoundProfile m p.val change = s.respond m .notBound [] := by
  rw [State.onBoundProfile, dif_pos p.isLt]
  rcases unbound with h | h <;> simp only [Fin.eta, h]

theorem State.onBoundProfile_bound (m : Message) {p : Fin 384} (change : Profile → Profile)
    (bound : (s.prof p).state = .bound ∨ (s.prof p).state = .stale) :
    s.onBoundProfile m p.val change = (s.setProf p (change (s.prof p))).respond m .ok [] := by
  rw [State.onBoundProfile, dif_pos p.isLt]
  rcases bound with h | h <;> simp only [Fin.eta, h]

/-- Settles O32: both requests act on a BOUND or STALE profile alone. -/
theorem revertAndClearResetTheVector : Obligations.RevertAndClearResetTheVector := by
  unfold Obligations.RevertAndClearResetTheVector
  rintro s tag i m m' byte rfl rfl
  have short : (writeProfile i).length ≤ 1494 := by simp [writeProfile]
  have reverts (ready : s.Ready ⟨kindProfileRevert, tag, writeProfile i⟩ 6) :=
    exec_profileRevert_ready short ready (readProfile_writeProfile byte)
  have clears (ready : s.Ready ⟨kindProfileClear, tag, writeProfile i⟩ 6) :=
    exec_profileClear_ready short ready (readProfile_writeProfile byte)
  refine ⟨fun outside => ⟨fun ready => ?_, fun ready => ?_⟩, ?_⟩
  · rw [reverts ready, State.onBoundProfile_outside _ outside, ready.respond _ _ (by simp)]
  · rw [clears ready, State.onBoundProfile_outside _ outside, ready.respond _ _ (by simp)]
  rintro p rfl
  refine ⟨fun unbound => ⟨fun ready => ?_, fun ready => ?_⟩, fun bound => ⟨fun ready => ?_, fun ready => ?_⟩⟩
  · rw [reverts ready, State.onBoundProfile_unbound (s := s.taken) _ _ unbound, ready.respond _ _ (by simp)]
  · rw [clears ready, State.onBoundProfile_unbound (s := s.taken) _ _ unbound, ready.respond _ _ (by simp)]
  · rw [reverts ready, State.onBoundProfile_bound (s := s.taken) _ _ bound, ready.respond _ _ (by simp)]
    rfl
  · rw [clears ready, State.onBoundProfile_bound (s := s.taken) _ _ bound, ready.respond _ _ (by simp)]
    rfl

/-! ### DIRECTORY GET (R129) -/

theorem State.directoryFields_length (s : State) (k : Key) : (s.directoryFields k).length ≤ 770 := by
  have entry : ∀ e, (s.entryBytes e).length = 6 := fun e => by simp [State.entryBytes]
  have page : ((s.entriesFrom k).take 128).length ≤ 128 := List.length_take_le ..
  simp only [State.directoryFields, List.length_append, beBytes_length, List.length_flatMap, entry, List.map_const',
    List.sum_replicate, Config.directoryPage, smul_eq_mul, List.length_singleton]
  omega

/-- Settles O33: the entries from the key on are those that are not before it. -/
theorem directoryGetListsEntriesInOrder : Obligations.DirectoryGetListsEntriesInOrder := by
  unfold Obligations.DirectoryGetListsEntriesInOrder
  rintro s tag station ch es ready most listed
  have fields := s.taken.directoryFields_length ⟨station, ch⟩
  have page : s.taken.entriesFrom ⟨station, ch⟩ = es := by
    rw [listed]
    refine List.filter_congr fun e _ => ?_
    rw [Key.lt, ← decide_not]
    refine decide_eq_decide.2 ?_
    dsimp only
    omega
  rw [exec_directoryGet_ready (by simp [writeDirectoryGet]) ready (readDirectoryGet_writeDirectoryGet ch most),
    ready.respond _ _ (Nat.add_le_add_right fields 6)]
  simp only [State.directoryFields, page, List.length_take, Config.directoryPage, boolByte, decide_eq_true_eq]
  rfl

/-! ### The sweep (R138, R139) -/

theorem exec_sweepVisit (running : s.resetHeld = false) :
    exec .sweepVisit s = .next (if s.sweep.visitReached then s.visit else s) := by
  show execSweepVisit s = _
  rw [execSweepVisit, State.unlessReset_running _ _ running]

theorem State.visitProfile_unaged {p : Fin 384} (stays : ¬((s.prof p).state = .bound ∧ (s.prof p).holder = none)) :
    s.visitProfile p = s := by
  refine if_neg ?_
  simpa [Profile.ages] using stays

theorem State.visitProfile_aged {p : Fin 384} (bound : (s.prof p).state = .bound) (unheld : (s.prof p).holder = none)
    (young : (s.prof p).age < 15) : s.visitProfile p =
      if (s.prof p).age + 1 = s.sweep.ageLimit then
        (s.setProf p { s.prof p with age := (s.prof p).age + 1, state := .stale }).notify (.profileStale p (s.prof p).key)
      else s.setProf p { s.prof p with age := (s.prof p).age + 1 } := by
  have ages : (s.prof p).ages = true := by simp [Profile.ages, bound, unheld]
  have next : min 15 ((s.prof p).age + 1) = (s.prof p).age + 1 := by omega
  rw [State.visitProfile]
  simp only [ages, next, if_true]

/-- What the visit of a profile never touches. -/
theorem State.visitProfile_eq (s : State) (p : Fin 384) : s.visitProfile p =
    { s with profiles := (s.visitProfile p).profiles, output := (s.visitProfile p).output } := by
  unfold State.visitProfile
  dsimp only
  split_ifs <;> rfl

theorem State.visitProfile_other (s : State) {p q : Fin 384} (other : q ≠ p) : (s.visitProfile p).prof q = s.prof q := by
  unfold State.visitProfile
  dsimp only
  split_ifs <;> simp [other.symm]

/-- Settles O34: the visit of the profile, then the sweep's own step. -/
theorem sweepVisitAgesOneProfile : Obligations.SweepVisitAgesOneProfile := by
  unfold Obligations.SweepVisitAgesOneProfile
  rintro s p running rfl
  refine ⟨fun early => ?_, fun due => ?_⟩
  · rw [exec_sweepVisit running, early]; rfl
  have visit : s.visit = { s with
      profiles := (s.visitProfile s.sweep.pointer).profiles
      output := (s.visitProfile s.sweep.pointer).output
      sweep := { s.sweep with
        pointer := s.sweep.pointer + 1
        nextVisit := s.timebase.counter + BitVec.ofNat 32 (visitInterval s.sweep.ageingPeriod)
        visitReached := false } } := by
    rw [State.visit, s.visitProfile_eq s.sweep.pointer]
    rfl
  have prof (q : Fin 384) : s.visit.prof q = (s.visitProfile s.sweep.pointer).prof q := rfl
  have output : s.visit.output = (s.visitProfile s.sweep.pointer).output := rfl
  refine ⟨s.visit, by rw [exec_sweepVisit running, if_pos due], ?_, ?_, fun q other => ?_, fun stays => ?_,
    fun bound unheld young below => ?_, fun bound unheld young reached => ?_⟩
  · rw [visit]
  · rw [visit, visitInterval_eq]
  · rw [prof, s.visitProfile_other other]
  · rw [prof, output, State.visitProfile_unaged stays]
    exact ⟨rfl, rfl⟩
  · rw [prof, output, State.visitProfile_aged bound unheld young, if_neg below]
    simp
  · rw [prof, output, State.visitProfile_aged bound unheld young, if_pos reached]
    exact ⟨by simp, rfl⟩

end Sys2Proof.Machine
end

section
/-! The table access pointer (section 10.3): SEEK, the beginning of a PUT and of a GET, and their items. -/

namespace Sys2Proof.Machine

variable {s : State}

/-! ### SEEK and the beginnings (R189 to R191) -/

theorem AccessPointer.putFields_length (a : AccessPointer) (moved : Nat) : (a.putFields moved).length = 5 := by
  simp [AccessPointer.putFields]

theorem AccessPointer.getFields_length (a : AccessPointer) (moved : Nat) (got : List Byte) :
    (a.getFields moved got).length = 5 + got.length := by
  simp [AccessPointer.getFields]; omega

theorem AccessPointer.atEnd_iff (a : AccessPointer) : a.atEnd = true ↔ a.table.items ≤ a.index := decide_eq_true_iff

/-- A state in which no PUT or GET is under way is not changed by the end of one. -/
theorem State.setTransfer_idle (idle : s.link.transfer = none) : s.setTransfer none = s := by
  obtain ⟨_, _, _, _, _, _, _, _, _, ⟨_, _, _, _, _, transfer⟩, _⟩ := s
  obtain rfl : transfer = none := idle
  rfl

/-- Settles O35: each request by its refusals, the PUT and the GET by the pointer's place. -/
theorem pointerRequestsBegin : Obligations.PointerRequestsBegin := by
  unfold Obligations.PointerRequestsBegin
  rintro s tag a rfl
  refine ⟨?_, ?_, ?_⟩
  · rintro t ch i m channel index rfl ready
    rw [exec_tableSeek_ready (by simp [writeTableSeek]) ready (readTableSeek_writeTableSeek t channel index)]
    simp only [State.seek]
    by_cases outside : t = .classes ∧ 6 ≤ ch
    · rw [if_pos outside, if_pos outside, ready.respond _ _ (by simp)]
    · rw [if_neg outside, if_neg outside]
      by_cases beyond : t.items ≤ i
      · rw [if_pos beyond, if_pos beyond, ready.respond _ _ (by simp)]
      · rw [if_neg beyond, if_neg beyond, ready.respond _ _ (by simp)]
        rfl
  · rintro items m some_ most fits short rfl ready
    have idle : s.taken.link.transfer = none := ready.idle
    rw [exec_tablePut_ready short ready (readTablePut_writeTablePut some_ most fits)]
    simp only [State.put, AccessPointer.atEnd_iff, State.taken_link, NodeLink.dropHead_pointer]
    by_cases ended : s.link.pointer.table.items ≤ s.link.pointer.index
    · rw [if_pos ended, if_pos ended, State.endPut, State.setTransfer_idle idle,
        ready.respond _ _ (by rw [AccessPointer.putFields_length])]
      rfl
    · rw [if_neg ended, if_neg ended]
      rfl
  · rintro n m some_ most rfl ready
    have idle : s.taken.link.transfer = none := ready.idle
    rw [exec_tableGet_ready (by simp [writeTableGet]) ready (readTableGet_writeTableGet some_ most)]
    simp only [State.get, AccessPointer.atEnd_iff, State.taken_link, NodeLink.dropHead_pointer]
    by_cases ended : s.link.pointer.table.items ≤ s.link.pointer.index
    · rw [if_pos ended, if_pos ended, State.endGet, State.setTransfer_idle idle,
        ready.respond _ _ (by rw [AccessPointer.getFields_length]; simp)]
      simp only [AccessPointer.getFields, List.append_nil]
      rfl
    · rw [if_neg ended, if_neg ended]
      rfl

/-! ### One item of a PUT (R187, R190) -/

theorem exec_putItem {tag : Byte} {item : PutItem} {left : List PutItem} {moved : Nat} {clamped : Bool}
    (running : s.resetHeld = false) (busy : s.link.transfer = some (.put tag (item :: left) moved clamped)) :
    exec .putItem s = .next (s.unlessFull (s.putOne tag item left moved clamped) 11) := by
  show execPutItem s = _
  rw [execPutItem, State.unlessReset_running _ _ running]
  simp only [busy]
  rfl

/-- An item that does not end its PUT is taken at once. -/
theorem State.unlessFull_busy {t : State} {room : Nat} (busy : t.link.transfer.isSome) : s.unlessFull t room = t :=
  if_pos (.inl busy)

/-- An item that ends its PUT or GET waits for room (log entry 13). -/
theorem State.unlessFull_ended {t : State} {room : Nat} (ended : t.link.transfer = none) :
    s.unlessFull t room = if room ≤ s.output.room then t else s := by
  simp [State.unlessFull, ended]

/-- The end of a PUT, once its response has room. -/
theorem State.endPut_eq (t : State) (tag : Byte) (st : Status) (moved : Nat) (room : 11 ≤ t.output.room) :
    t.endPut tag st moved = { t.answered ⟨kindTablePut, tag, []⟩ st (t.link.pointer.putFields moved) with
      link := { t.link with transfer := none } } := by
  have fits : (t.link.pointer.putFields moved).length + 6 ≤ (t.setTransfer none).output.room := by
    rw [AccessPointer.putFields_length]; exact room
  rw [State.endPut, State.respond_eq_answered _ _ _ _ fits]
  rfl

section Item
variable {tag : Byte} {item : PutItem} {left : List PutItem} {moved : Nat} {clamped : Bool} {a : AccessPointer}
  (running : s.resetHeld = false) (busy : s.link.transfer = some (.put tag (item :: left) moved clamped))
  (here : s.link.pointer = a)
include running busy here

/-- An item that its owner refuses ends the PUT. -/
theorem exec_putItem_refused {st : Status} (refused : s.writeItem a item = .refused st) :
    exec .putItem s = .next (if 11 ≤ s.output.room then
        { s.answered ⟨kindTablePut, tag, []⟩ st (a.putFields moved) with link := { s.link with transfer := none } }
      else s) := by
  subst here
  have ended : s.putOne tag item left moved clamped = s.endPut tag st moved := by rw [State.putOne, refused]
  rw [exec_putItem running busy, ended, State.unlessFull_ended rfl]
  by_cases room : 11 ≤ s.output.room
  · rw [if_pos room, if_pos room, s.endPut_eq tag st moved room]
  · rw [if_neg room, if_neg room]

/-- An item that its owner takes advances the pointer; the last one, or one at the table's end, ends the PUT. -/
theorem exec_putItem_taken {t : State} {c : Bool} (written : s.writeItem a item = .taken t c) :
    exec .putItem s = .next (if left ≠ [] ∧ a.index + 1 < a.table.items then
        { t with link := { s.link with pointer := a.advance, transfer := some (.put tag left (moved + 1) (clamped || c)) } }
      else if 11 ≤ s.output.room then
        { t.answered ⟨kindTablePut, tag, []⟩ (if left ≠ [] then .endReached else clampStatus (clamped || c))
            (a.advance.putFields (moved + 1)) with
          link := { s.link with pointer := a.advance, transfer := none } }
      else s) := by
  subst here
  obtain ⟨link, output, -⟩ := State.writeItem_aside written
  have one : s.putOne tag item left moved clamped =
      if left ≠ [] ∧ s.link.pointer.index + 1 < s.link.pointer.table.items then
        (t.setLink { t.link with pointer := s.link.pointer.advance }).setTransfer
          (some (.put tag left (moved + 1) (clamped || c)))
      else (t.setLink { t.link with pointer := s.link.pointer.advance }).endPut tag
        (if left ≠ [] then .endReached else clampStatus (clamped || c)) (moved + 1) := by
    rw [State.putOne, written]
    simp only [link, AccessPointer.atEnd_iff, AccessPointer.advance]
    by_cases last : left = []
    · simp [last]
    · by_cases ended : s.link.pointer.table.items ≤ s.link.pointer.index + 1
      · simp [last, ended, Nat.not_lt.2 ended]
      · simp [last, ended, Nat.not_le.1 ended]
  rw [exec_putItem running busy, one]
  by_cases goes : left ≠ [] ∧ s.link.pointer.index + 1 < s.link.pointer.table.items
  · rw [if_pos goes, if_pos goes, State.unlessFull_busy rfl, link]
    rfl
  · rw [if_neg goes, if_neg goes, State.unlessFull_ended rfl]
    by_cases room : 11 ≤ s.output.room
    · rw [if_pos room, if_pos room, State.endPut_eq _ _ _ _ (by rw [State.setLink_output, output]; exact room), link]
      rfl
    · rw [if_neg room, if_neg room]

end Item

/-! ### The items of each table (R27 to R32, R125, R126) -/

theorem ne_eq_decide_ne {α : Type} [DecidableEq α] (x y : α) : (x != y) = decide (x ≠ y) := by
  by_cases same : x = y <;> simp [same]

theorem clampStatus_or (b c : Bool) : clampStatus (b || c) = if b = true ∨ c = true then .clamped else .ok := by
  simp [clampStatus]

theorem classChannel_eq (t : TableId) (ch : Fin 6) (i : Nat) : AccessPointer.classChannel ⟨t, ch.val, i⟩ = ch :=
  dif_pos ch.isLt

theorem classIndex_eq (i : Fin 6) : classIndex i.val = i := dif_pos i.isLt

theorem patternIndex_eq (i : Fin 8) : patternIndex i.val = i := dif_pos i.isLt

theorem metaProfile_eq (p : Fin 384) : metaProfile p.val = p := dif_pos p.isLt

theorem vectorProfile_eq (p : Fin 384) (tap : Fin 24) : vectorProfile (p.val * 24 + tap.val) = p := by
  have whole : (p.val * 24 + tap.val) / 24 = p.val := by omega
  unfold vectorProfile
  rw [dif_pos (by omega)]
  exact Fin.ext whole

theorem vectorTap_eq (p : Fin 384) (tap : Fin 24) : vectorTap (p.val * 24 + tap.val) = tap :=
  Fin.ext (show (p.val * 24 + tap.val) % 24 = tap.val by omega)

theorem ChannelState.active_iff (x : ChannelState) : x.active = true ↔ x = .running ∨ x = .stopping := by
  cases x <;> simp [ChannelState.active]

theorem State.writeClass_active {ch : Fin 6} (active : (s.chan ch).state = .running ∨ (s.chan ch).state = .stopping)
    (i : Fin 6) (e : ClassEntry) : s.writeClass ch i e = .refused .channelState :=
  if_pos ((ChannelState.active_iff _).2 active)

theorem State.writeClass_quiet {ch : Fin 6} (quiet : (s.chan ch).state = .off ∨ (s.chan ch).state = .ready)
    (i : Fin 6) (e : ClassEntry) : s.writeClass ch i e =
      .taken (s.setChan ch { s.chan ch with
        classes := (s.chan ch).classes.set i (storedEntry e s.patterns[e.preamble].length) })
        (storedEntry e s.patterns[e.preamble].length != e) := by
  refine if_neg ?_
  rcases quiet with h | h <;> simp [h, ChannelState.active]

/-- Settles O36: a class item is refused or stored, and ends its PUT or not. -/
theorem classItemsAreStoredClamped : Obligations.ClassItemsAreStoredClamped := by
  unfold Obligations.ClassItemsAreStoredClamped
  intro s tag ch i e e' left moved clamped running here busy clamps
  have entry : storedEntry e s.patterns[e.preamble].length = e' := by rw [clamps]; rfl
  have write : s.writeItem ⟨.classes, ch.val, i.val⟩ (.classEntry e) = s.writeClass ch i e := by
    simp only [State.writeItem, classChannel_eq, classIndex_eq]
  have refused (active : (s.chan ch).state = .running ∨ (s.chan ch).state = .stopping) :=
    exec_putItem_refused running busy here (write.trans (State.writeClass_active active i e))
  have stored (quiet : (s.chan ch).state = .off ∨ (s.chan ch).state = .ready) :=
    exec_putItem_taken running busy here (write.trans (State.writeClass_quiet quiet i e))
  simp only [entry, ne_eq_decide_ne] at stored
  have last : i.val = 5 ↔ ¬ i.val + 1 < 6 := by omega
  refine ⟨fun active room => ?_, fun quiet more below => ?_, fun quiet ends room => ?_, fun ends full => ?_⟩
  · rw [refused active, if_pos room]
    rfl
  · rw [stored quiet, if_pos ⟨more, show i.val + 1 < 6 by omega⟩]
    rfl
  · rw [stored quiet, if_neg, if_pos room, clampStatus_or]
    · simp only [decide_eq_true_eq]
      rfl
    · rintro ⟨more, below⟩
      exact ends.elim more fun top => last.1 top below
  · have states : ((s.chan ch).state = .running ∨ (s.chan ch).state = .stopping) ∨
        ((s.chan ch).state = .off ∨ (s.chan ch).state = .ready) := by
      cases (s.chan ch).state <;> simp
    rcases states with active | quiet
    · rw [refused active, if_neg (by omega)]
    · rw [stored quiet, if_neg, if_neg (by omega)]
      rintro ⟨more, below⟩
      rcases ends with h | h | h | h
      · rw [h] at quiet; simp at quiet
      · rw [h] at quiet; simp at quiet
      · exact more h
      · exact last.1 h below

/-- A pattern is in use as R31 words it. -/
theorem State.patternInUse_iff {i : Fin 8} : s.patternInUse i = true ↔
    ∃ ch c : Fin 6, ((s.chan ch).state = .running ∨ (s.chan ch).state = .stopping) ∧
      (s.chan ch).classes[c].valid = true ∧ (s.chan ch).classes[c].preamble = i := by
  simp only [State.patternInUse, List.any_eq_true, Bool.and_eq_true, ChannelState.active_iff, beq_iff_eq,
    Vector.mem_toList_iff, Vector.mem_iff_getElem]
  constructor
  · rintro ⟨ch, -, active, e, ⟨c, hc, rfl⟩, valid, named⟩
    exact ⟨ch, ⟨c, hc⟩, active, valid, named⟩
  · rintro ⟨ch, c, active, valid, named⟩
    exact ⟨ch, mem_channelIds ch, active, _, ⟨c.val, c.isLt, rfl⟩, valid, named⟩

/-- The state once a pattern is stored and every longer Lp that names it is lowered (R30, R32). -/
def State.withPattern (s : State) (i : Fin 8) (qs : List Quadrant) : State :=
  { s with
    patterns := s.patterns.set i qs
    channels := s.channels.map fun c => { c with classes := c.classes.map (lowerEntry i qs.length) } }

theorem State.withPattern_chan (s : State) (i : Fin 8) (qs : List Quadrant) (ch : Fin 6) :
    (s.withPattern i qs).chan ch =
      { s.chan ch with classes := (s.chan ch).classes.map (lowerEntry i qs.length) } := by
  simp [State.withPattern, State.chan]

/-- The write of a pattern lowers an Lp exactly when an entry differs after it (R32). -/
theorem State.lowersLp_iff {i : Fin 8} {n : Nat} : s.lowersLp i n = true ↔
    ∃ ch c : Fin 6, lowerEntry i n (s.chan ch).classes[c] ≠ (s.chan ch).classes[c] := by
  simp only [State.lowersLp, List.any_eq_true, bne_iff_ne, Vector.mem_toList_iff, Vector.mem_iff_getElem]
  constructor
  · rintro ⟨ch, -, e, ⟨c, hc, rfl⟩, differs⟩
    exact ⟨ch, ⟨c, hc⟩, differs⟩
  · rintro ⟨ch, c, differs⟩
    exact ⟨ch, mem_channelIds ch, _, ⟨c.val, c.isLt, rfl⟩, differs⟩

theorem metaClamps_eq (c b : Int) (rl : Nat) :
    metaClamps c b rl = !decide (-127 ≤ c ∧ c ≤ 127 ∧ -6 ≤ b ∧ b ≤ 6 ∧ 1 ≤ rl ∧ rl ≤ 7) := by
  rw [Bool.eq_iff_iff]
  simp only [metaClamps, Bool.or_eq_true, bne_iff_ne, Bool.not_eq_true', decide_eq_false_iff_not, clampInt, clampNat]
  omega

/-- Settles O37: each item is written by its table's owner, and `taken` says what becomes of the PUT. -/
theorem patternAndProfileItemsAreStored : Obligations.PatternAndProfileItemsAreStored := by
  unfold Obligations.PatternAndProfileItemsAreStored
  intro s tag a item left moved clamped taken running here busy
  have inUse (i : Fin 8) (qs : List Quadrant) (index : a.index = i.val) (pattern : item = .pattern qs)
      (used : ∃ ch c : Fin 6, ((s.chan ch).state = .running ∨ (s.chan ch).state = .stopping) ∧
        (s.chan ch).classes[c].valid = true ∧ (s.chan ch).classes[c].preamble = i) :
      s.writeItem a item = .refused .inUse := by
    simp only [pattern, State.writeItem, index, patternIndex_eq]
    exact if_pos (State.patternInUse_iff.2 used)
  refine ⟨fun ends full => ?_, fun room takes => ?_⟩
  · cases written : s.writeItem a item with
    | refused st => rw [exec_putItem_refused running busy here written, if_neg (by omega)]
    | taken t c =>
      rw [exec_putItem_taken running busy here written, if_neg, if_neg (by omega)]
      rintro ⟨more, below⟩
      rcases ends with last | top | ⟨i, qs, -, index, pattern, used⟩
      · exact more last
      · omega
      · rw [inUse i qs index pattern used] at written
        cases written
  have stored {w : State} {c : Bool} (written : s.writeItem a item = .taken w c) : exec .putItem s = .next (taken w c) := by
    rw [exec_putItem_taken running busy here written, takes]
    by_cases goes : left ≠ [] ∧ a.index + 1 < a.table.items
    · rw [if_pos goes, if_pos goes]
      rfl
    · rw [if_neg goes, if_neg goes, if_pos (room.resolve_left goes), clampStatus_or]
      rfl
  refine ⟨fun i qs table index pattern => ⟨fun used room => ?_, fun unused => ?_⟩, fun p tap c vectors index coef => ?_,
    fun p c b rl table index fields => ?_⟩
  · rw [exec_putItem_refused running busy here (inUse i qs index pattern used), if_pos room, AccessPointer.putFields, table,
      index]
    rfl
  · have free : s.patternInUse i = false := by
      rw [Bool.eq_false_iff, ne_eq, State.patternInUse_iff]
      rintro ⟨ch, c, active, valid, named⟩
      exact unused ch c active valid named
    have written : s.writeItem a item = .taken (s.withPattern i qs) (s.lowersLp i qs.length) := by
      simp only [pattern, State.writeItem, index, patternIndex_eq, State.writePattern, free, Bool.false_eq_true, if_false]
      rfl
    refine ⟨s.withPattern i qs, rfl, ?_, fun ch c => ⟨?_, ?_⟩⟩
    · rw [stored written]
      congr 2
      rw [Bool.eq_iff_iff, State.lowersLp_iff, decide_eq_true_eq]
      simp only [State.withPattern_chan, Fin.getElem_fin, Vector.getElem_map]
    · simp only [State.withPattern_chan, Fin.getElem_fin, Vector.getElem_map, lowerEntry]
    · rw [State.withPattern_chan]
  · refine stored ?_
    simp only [coef, State.writeItem, index, vectorProfile_eq, vectorTap_eq]
    rcases vectors with table | table <;> simp only [table, if_true, reduceCtorEq, if_false] <;> rfl
  · refine stored ?_
    simp only [fields, State.writeItem, index, metaProfile_eq, metaClamps_eq]
    rfl

/-! ### One item of a GET (R126, R191) -/

section Item
variable {tag : Byte} {start : AccessPointer} {left moved : Nat} {got : List Byte} {a : AccessPointer}
  (running : s.resetHeld = false) (busy : s.link.transfer = some (.get tag start left moved got))
  (here : s.link.pointer = a)
include running busy here

/-- An item of a GET is read and the pointer advanced; the last one, or one at the table's end, ends the GET. -/
theorem exec_getItem : exec .getItem s = .next
    (if left ≤ 1 ∨ a.table.items ≤ a.index + 1 then
      if 11 + (got ++ s.readEntry a).length ≤ s.output.room then
        { s.answered ⟨kindTableGet, tag, []⟩ (if left ≤ 1 then .ok else .endReached)
            (start.getFields (moved + 1) (got ++ s.readEntry a)) with
          link := { s.link with pointer := a.advance, transfer := none } }
      else s
    else { s with link := { s.link with
      pointer := a.advance, transfer := some (.get tag start (left - 1) (moved + 1) (got ++ s.readEntry a)) } }) := by
  subst here
  have one : s.getOne tag start left moved got =
      if left ≤ 1 ∨ s.link.pointer.table.items ≤ s.link.pointer.index + 1 then
        (s.setLink { s.link with pointer := s.link.pointer.advance }).endGet tag start
          (if left ≤ 1 then .ok else .endReached) (moved + 1) (got ++ s.readEntry s.link.pointer)
      else (s.setLink { s.link with pointer := s.link.pointer.advance }).setTransfer
        (some (.get tag start (left - 1) (moved + 1) (got ++ s.readEntry s.link.pointer))) := by
    simp only [State.getOne, AccessPointer.atEnd_iff, AccessPointer.advance]
    by_cases last : left ≤ 1
    · simp [last]
    · simp [last]
  have taken : exec .getItem s = .next (s.unlessFull (s.getOne tag start left moved got)
      (11 + (got ++ s.readEntry s.link.pointer).length)) := by
    show execGetItem s = _
    rw [execGetItem, State.unlessReset_running _ _ running]
    simp only [busy]
    rfl
  rw [taken, one]
  by_cases ends : left ≤ 1 ∨ s.link.pointer.table.items ≤ s.link.pointer.index + 1
  · rw [if_pos ends, if_pos ends, State.unlessFull_ended rfl]
    by_cases room : 11 + (got ++ s.readEntry s.link.pointer).length ≤ s.output.room
    · rw [if_pos room, if_pos room, State.endGet, State.respond_eq_answered]
      · rfl
      · rw [AccessPointer.getFields_length]
        show _ ≤ s.output.room
        omega
    · rw [if_neg room, if_neg room]
  · rw [if_neg ends, if_neg ends, State.unlessFull_busy rfl]
    rfl

end Item

/-- The bytes of a PROFILE META item, each absent field spelled (R126). -/
theorem Profile.metaBytes_eq (q : Profile) : q.metaBytes =
    beBytes 1 (match q.state with | .free => 0 | .bound => 1 | .stale => 2 | .retiring => 3) ++
      (match q.key with | none => [0#8, 0#8, 0xFF#8] | some k => beBytes 2 k.station ++ beBytes 1 k.channel.val) ++
      beSigned 1 q.offset ++ beSigned 1 q.bias ++ beBytes 1 q.age ++ beBytes 1 q.failCount ++ beBytes 1 q.revertLimit ++
      beBytes 1 (match q.holder with | none => 0xFF | some l => l.val) ++
      beBytes 1 (match q.claim with | none => 0xFF | some l => l.val) ++
      beBytes 1 ((if q.overridden then 1 else 0) + (if q.previous.isSome then 2 else 0) +
        (if q.lastMer.isSome then 4 else 0)) ++
      beBytes 1 (match q.lastMer with | none => 0 | some m => m) := by
  have state : q.state.code = match q.state with | .free => 0 | .bound => 1 | .stale => 2 | .retiring => 3 := by
    cases q.state <;> rfl
  have key : beBytes 2 ((q.key.map (·.station)).getD 0) ++ beBytes 1 ((q.key.map (·.channel.val)).getD 0xFF) =
      match q.key with | none => [0#8, 0#8, 0xFF#8] | some k => beBytes 2 k.station ++ beBytes 1 k.channel.val := by
    cases q.key <;> rfl
  have lane (x : Option (Fin 12)) : laneByte x = match x with | none => 0xFF | some l => l.val := by cases x <;> rfl
  have marks : q.marks = (if q.overridden then 1 else 0) + (if q.previous.isSome then 2 else 0) +
      (if q.lastMer.isSome then 4 else 0) := by
    simp only [Profile.marks, bitsValue]
    cases q.overridden <;> cases q.previous.isSome <;> cases q.lastMer.isSome <;> rfl
  have mer : q.lastMer.getD 0 = match q.lastMer with | none => 0 | some m => m := by cases q.lastMer <;> rfl
  rw [Profile.metaBytes, state, lane, lane, marks, mer, List.append_assoc (beBytes 1 _), key]

/-- Settles O38: the bytes are the addressed entry's, by the table; the item ends its GET or not. -/
theorem getItemsReadTheEntry : Obligations.GetItemsReadTheEntry := by
  unfold Obligations.GetItemsReadTheEntry
  intro s tag a start left moved got bytes running here busy some_ classes patterns current previous profiles inside
    channels
  have read : s.readEntry a = bytes := by
    obtain ⟨table, channel, index⟩ := a
    cases table with
    | classes =>
      have reads := classes ⟨channel, channels rfl⟩ ⟨index, inside⟩ rfl
      rw [reads]
      simp only [State.readEntry, classChannel_eq .classes ⟨channel, channels rfl⟩ index, classIndex_eq ⟨index, inside⟩]
    | preambles =>
      rw [patterns ⟨index, inside⟩ rfl rfl]
      simp only [State.readEntry, patternIndex_eq ⟨index, inside⟩]
    | profileCurrent =>
      have inside : index < 9216 := inside
      obtain ⟨p, tap, split⟩ : ∃ (p : Fin 384) (tap : Fin 24), index = p.val * 24 + tap.val :=
        ⟨⟨index / 24, by omega⟩, ⟨index % 24, by omega⟩, by dsimp only; omega⟩
      rw [current p tap rfl split]
      simp only [State.readEntry, split, vectorProfile_eq, vectorTap_eq]
    | profilePrevious =>
      have inside : index < 9216 := inside
      obtain ⟨p, tap, split⟩ : ∃ (p : Fin 384) (tap : Fin 24), index = p.val * 24 + tap.val :=
        ⟨⟨index / 24, by omega⟩, ⟨index % 24, by omega⟩, by dsimp only; omega⟩
      rw [previous p tap rfl split]
      simp only [State.readEntry, split, vectorProfile_eq, vectorTap_eq, previousBytes]
      cases (s.prof p).previous <;> rfl
    | profileMeta =>
      rw [profiles ⟨index, inside⟩ _ rfl rfl rfl]
      simp only [State.readEntry, metaProfile_eq ⟨index, inside⟩]
      exact Profile.metaBytes_eq _
  have taken := exec_getItem running busy here
  rw [read] at taken
  have one : left ≤ 1 ↔ left = 1 := by omega
  have top : a.table.items ≤ a.index + 1 ↔ a.index + 1 = a.table.items := by omega
  simp only [one, top, List.length_append] at taken
  refine ⟨fun ends room => ?_, fun ends full => ?_, fun more below => ?_⟩
  · rw [taken, if_pos ends, if_pos (by omega)]
    rfl
  · rw [taken, if_pos ends, if_neg (by omega)]
  · rw [taken, if_neg (not_or.2 ⟨more, below⟩)]
    rfl

end Sys2Proof.Machine
end

section
/-! Arming, checkout and the opening of a window (chapters 3, 4 and 8). -/

namespace Sys2Proof.Machine

variable {s : State}

/-! ### Queues through an arming (R46, R52) -/

/-- A queue whose head loses its link mark when `broken` says so (R52). -/
def unlinkedHead (broken : Bool) (q : List QueuedGrant) : List QueuedGrant := if broken then breakLink q else q

theorem unlinkedHead_head {broken : Bool} {q : List QueuedGrant} (early : ∀ h ∈ q.head?, h.armReached = false) :
    ∀ h ∈ (unlinkedHead broken q).head?, h.armReached = false := by
  cases q with
  | nil => cases broken <;> exact early
  | cons g gs =>
    have := early g (by simp)
    cases broken <;> simpa [unlinkedHead, breakLink] using this

theorem unlinkedHead_length (broken : Bool) (q : List QueuedGrant) : (unlinkedHead broken q).length = q.length := by
  cases broken <;> cases q <;> rfl

theorem State.leaveWithoutLane_queue (s : State) (ch k : Fin 6) (g : QueuedGrant) (o : BurstOutcome) :
    (s.leaveWithoutLane ch g o).queue k =
      if ch = k then unlinkedHead (linkBreaks g (s.queue ch)) (s.queue ch) else s.queue k := by
  simp only [State.leaveWithoutLane, State.emitRecord_queue, unlinkedHead]
  by_cases same : ch = k
  · subst same
    split <;> simp
  · split <;> simp [same]

/-- A grant that arms takes no grant from a queue; at most the head behind it loses its link. -/
theorem State.armGrant_queue (s : State) (pool : List (Fin 12)) (ch k : Fin 6) (g : QueuedGrant) :
    (s.armGrant pool ch g).1.queue k = if ch = k then unlinkedHead (s.armGrant pool ch g).2 (s.queue ch) else s.queue k := by
  unfold State.armGrant
  dsimp only
  split
  · exact s.leaveWithoutLane_queue ch k g _
  · split
    · exact s.leaveWithoutLane_queue ch k g _
    · split
      · exact s.leaveWithoutLane_queue ch k g _
      · rw [Work.judging_queue (State.checkout_work _ _), State.setLane_queue]
        split
        · rename_i same; rw [same]; rfl
        · rfl

/-- The arming of a head takes that head from its queue. -/
theorem State.armHead_queue {pool : List (Fin 12)} {ch : Fin 6} {g : QueuedGrant} {rest : List QueuedGrant}
    (waits : s.queue ch = g :: rest) (k : Fin 6) :
    (s.armHead pool ch).1.queue k = if ch = k then unlinkedHead (s.armHead pool ch).2 rest else s.queue k := by
  unfold State.armHead
  rw [waits]
  dsimp only
  rw [State.armGrant_queue]
  by_cases same : ch = k <;> simp [same]

/-- A due head with none due behind it arms as a fallback does (R45, R46, R51). -/
theorem State.runQueue_eq_fallback {ch : Fin 6} {g : QueuedGrant} {rest : List QueuedGrant}
    (waits : s.queue ch = g :: rest) (due : s.headDue ch = true) (early : ∀ h ∈ rest.head?, h.armReached = false) :
    s.runQueue laneIds ch = s.fallback ch false := by
  have still : (s.armHead laneIds ch).1.headDue ch = false := by
    refine State.headDue_of_not_reached (q := unlinkedHead (s.armHead laneIds ch).2 rest) ?_ (unlinkedHead_head early)
    rw [State.armHead_queue waits, if_pos rfl]
  rw [State.fallback_of_not_due still, State.runQueue, waits, List.length_cons, armRun, if_pos due,
    armRun_of_not_due still]

theorem exec_arming_due {ch : Fin 6} {g : QueuedGrant} {rest : List QueuedGrant} (running : s.resetHeld = false)
    (waits : s.queue ch = g :: rest) (unlinked : s.linked ch g = false) (reached : g.armReached = true)
    (early : ∀ h ∈ rest.head?, h.armReached = false) :
    exec (.arming ch) s = .next ((s.fallback ch false).settle ch) := by
  have due : s.headDue ch = true := by simp only [State.headDue, waits, unlinked, reached]; rfl
  show execArming ch s = _
  rw [execArming, State.unlessReset_running _ _ running, if_pos due, State.runQueue_eq_fallback waits due early]

theorem State.setChan_self (s : State) (ch : Fin 6) : s.setChan ch (s.chan ch) = s := s.setQueue_self ch

/-- The STOPPING test, said once (R22). -/
theorem State.settle_eq (s : State) (ch : Fin 6) : s.settle ch = s.setChan ch { s.chan ch with
    state := if (s.chan ch).state = .stopping ∧ s.queue ch = [] ∧ (∀ l, s.serves l ch = false) then .ready
      else (s.chan ch).state } := by
  unfold State.settle
  simp only [State.lanesOf_eq_nil]
  split
  · rfl
  · exact (s.setChan_self ch).symm

/-- What a head leaves of the queue behind it when it takes no lane (R52). -/
def behindHead (g : QueuedGrant) : List QueuedGrant → List QueuedGrant
  | [] => []
  | h :: hs => (if g.grant.chain then { h with link := false } else h) :: hs

theorem behindHead_eq_nil {g : QueuedGrant} {rest : List QueuedGrant} : behindHead g rest = [] ↔ rest = [] := by
  cases rest <;> simp [behindHead]

/-- The record of a head that takes no lane, as it is handed over (R172). -/
def State.headRecord (s : State) (ch : Fin 6) (g : QueuedGrant) (outcome : BurstOutcome) : BurstRecord :=
  { lanelessRecord ch g.grant (s.classOf ch g.grant).modulation outcome s.lanelessFlags with counter := s.counter }

/-- Why a head takes no lane (R26, R46, R56). -/
def State.Fails (s : State) (ch : Fin 6) (g : QueuedGrant) (outcome : BurstOutcome) : Prop :=
  ((s.chan ch).lock = .lost ∧ outcome = .noInput) ∨
    ((s.chan ch).lock = .locked ∧
      s.reached (windowOpenTick (s.chan ch) g (s.expectedOffset ch g.grant) (s.chan ch).classes[g.grant.cls].w) = true ∧
      outcome = .missed) ∨
    ((s.chan ch).lock = .locked ∧
      s.reached (windowOpenTick (s.chan ch) g (s.expectedOffset ch g.grant) (s.chan ch).classes[g.grant.cls].w) = false ∧
      (∀ l, (s.lane l).state ≠ .free) ∧ outcome = .noLane)

/-- The fallback of a head that takes no lane. -/
theorem State.fallback_fails {ch : Fin 6} {g : QueuedGrant} {rest : List QueuedGrant} {outcome : BurstOutcome}
    (waits : s.queue ch = g :: rest) (early : ∀ h ∈ rest.head?, h.armReached = false) (fails : s.Fails ch g outcome) :
    s.fallback ch false =
      (s.setQueue ch (behindHead g rest)).setOutput (s.output.placeRecord (s.headRecord ch g outcome)) := by
  have record := (State.fallback_fallsBack waits early _ _ _ _ rfl rfl rfl rfl).1 outcome fails
  cases rest with
  | nil => exact record
  | cons h hs => exact record

theorem State.setQueue_serves (s : State) (ch : Fin 6) (q : List QueuedGrant) (l : Fin 12) (k : Fin 6) :
    (s.setQueue ch q).serves l k = s.serves l k := rfl

theorem State.setOutput_serves (s : State) (o : OutputQueue) (l : Fin 12) (k : Fin 6) :
    (s.setOutput o).serves l k = s.serves l k := rfl

theorem State.setQueue_setOutput_setChan (s : State) (ch : Fin 6) (q : List QueuedGrant) (o : OutputQueue) (c : Channel) :
    ((s.setQueue ch q).setOutput o).setChan ch c =
      { s with channels := (((s.setQueue ch q).setOutput o).setChan ch c).channels
               output := (((s.setQueue ch q).setOutput o).setChan ch c).output } := rfl

/-- Settles O40: the head falls to its record, and the channel settles. -/
theorem armingWithoutALaneYieldsItsRecord : Obligations.ArmingWithoutALaneYieldsItsRecord := by
  unfold Obligations.ArmingWithoutALaneYieldsItsRecord
  intro s ch g rest outcome running waits unlinked reached early cause
  have left := (exec_arming_due running waits unlinked reached early).trans
    (congrArg (fun w : State => Host.Outcome.next (w.settle ch)) (State.fallback_fails waits early cause))
  rw [State.settle_eq] at left
  simp only [State.setOutput_chan, State.setQueue_chan, if_true, State.setOutput_queue, State.setQueue_queue,
    State.setOutput_serves, State.setQueue_serves, behindHead_eq_nil] at left
  generalize (if (s.chan ch).state = .stopping ∧ rest = [] ∧ ∀ l, s.serves l ch = false then ChannelState.ready
    else (s.chan ch).state) = settled at left ⊢
  refine ⟨_, left, ?_, fun k other => ?_, ?_, ?_⟩
  · exact s.setQueue_setOutput_setChan ch _ _ _
  · rw [State.setChan_chan, if_neg other.symm, State.setOutput_chan, State.setQueue_chan, if_neg other.symm]
  · rw [State.setChan_chan, if_pos rfl]
    cases rest <;> rfl
  · rw [State.setChan_output, State.setOutput_output]
    exact congrArg s.output.placeRecord rfl

/-- What an allocation's checkout leaves as the allocation set it (R132): all but lanes' roles, profiles and output. -/
theorem State.checkout_settled (u : State) (l : Fin 12) (ch : Fin 6) (armed : (u.lane l).state = .armed)
    (serves : (u.lane l).channel = ch) : (u.checkout l).settle ch = u.checkout l := by
  obtain ⟨state, -, channel, -, -⟩ := (u.checkout_work l).service l
  refine State.settle_of_busy (.inr ⟨l, ?_⟩)
  simp only [State.serves, state, channel, armed, serves]
  simp

/-- Settles O41: the head takes the lane, and the channel that it serves does not settle. -/
theorem armingTakesTheLowestFreeLane : Obligations.ArmingTakesTheLowestFreeLane := by
  unfold Obligations.ArmingTakesTheLowestFreeLane
  intro s ch g rest l c e opens ends running waits unlinked reached early locked ofClass offset opensAt endsAt ahead
    free lowest
  have taken := (State.fallback_fallsBack waits early c e opens ends offset ofClass opensAt endsAt).2 l locked ahead
    free lowest
  have armed := exec_arming_due running waits unlinked reached early
  rw [taken] at armed
  clear taken
  generalize lane : ({ Lane.idle with
    state := .armed, grant := g, channel := ch, cls := e, offset := c, halfWidth := e.w, windowOpen := opens
    searchEnd := ends, firstPos := c - e.w, preamble := s.patterns[e.preamble].take e.lp, lcorr := min e.lp 16
    holdoverMark := s.timebase.sync == .holdover, searchReached := s.reached ends
    endReached := s.reached g.endTick } : Lane) = x at armed
  obtain ⟨state, grant, channel⟩ : x.state = .armed ∧ x.grant = g ∧ x.channel = ch := by subst lane; exact ⟨rfl, rfl, rfl⟩
  generalize unchecked : ({ s with channels := s.channels.set ch { s.chan ch with queue := rest }
                                   lanes := s.lanes.set l x } : State) = u at armed
  have own : u.lane l = x := by subst unchecked; simp [State.lane]
  have others : ∀ k, k ≠ l → u.lane k = s.lane k := by
    intro k ne; subst unchecked; simp [State.lane, Fin.val_ne_iff.mpr ne.symm]
  rw [State.checkout_settled u l ch (own ▸ state) (own ▸ channel)] at armed
  have checkout := u.checkout_work l
  have frame := checkout.frame
  have service := checkout.service l
  rw [own] at service
  subst unchecked
  subst lane
  refine ⟨_, _, armed, rfl, rfl, service.1.trans state, service.2.1.trans grant, service.2.2.1.trans channel, fun k ne => ?_, checkout.channels_of_judging, frame.timebase, frame.patterns,
    frame.directory, frame.sweep, frame.link, frame.resetHeld⟩
  obtain ⟨state, grant, channel, -, -⟩ := checkout.service k
  rw [others k ne] at state grant channel
  exact ⟨state, grant, channel⟩

end Sys2Proof.Machine
end

section
/-! The checkout and the opening of a window (chapters 4 and 8). -/

namespace Sys2Proof.Machine

variable {s : State}

/-! ### The preload, and what a release leaves of the lanes (R150, R155) -/

theorem preloadCold_iff {g : Grant} {q : Profile} :
    preloadCold g q = false ↔ g.ranging = false ∧ q.state = .bound := by
  simp [preloadCold]

/-- The preload, field by field (R150). -/
theorem Lane.withPreload_eq (x : Lane) (q : Profile) : x.withPreload q = { x with
    vec := if x.grant.grant.ranging = false ∧ q.state = .bound then q.current else defaultVector
    bias := if x.grant.grant.ranging = false ∧ q.state = .bound then q.bias else 0
    cold := !decide (x.grant.grant.ranging = false ∧ q.state = .bound) } := by
  unfold Lane.withPreload
  by_cases warm : x.grant.grant.ranging = false ∧ q.state = .bound
  · simp only [preloadCold_iff.2 warm, warm, and_self, decide_true]; rfl
  · have cold : preloadCold x.grant.grant q = true := by
      rw [← Bool.not_eq_false, preloadCold_iff]; exact warm
    simp only [cold, warm, decide_false]; rfl

/-- The effect of a judgement on lanes stays with the judged one. -/
theorem State.judgeEffect_lane_ne (s : State) {l k : Fin 12} (p : Fin 384) (b : Bool) (ne : k ≠ l) :
    (s.judgeEffect l p b).lane k = s.lane k := by
  have other (x : Lane) : (s.setLane l x).lane k = s.lane k := by rw [State.setLane_lane, if_neg ne.symm]
  unfold State.judgeEffect
  dsimp only
  split
  · exact other _
  · split
    · exact other _
    · split
      · exact other _
      · exact other _

/-- A release with no claim waiting leaves every lane. -/
theorem State.releaseHolder_lane_unclaimed {p : Fin 384} (unclaimed : (s.prof p).claim = none) (k : Fin 12) :
    (s.releaseHolder p).lane k = s.lane k := by
  unfold State.releaseHolder State.resolveClaim
  rw [State.retireIfReleased_lane, State.setProf_prof, if_pos rfl, unclaimed]
  rfl

/-- A judgement with no claim waiting leaves every other lane. -/
theorem State.judge_lane_unclaimed {l k : Fin 12} {p : Fin 384} (b : Bool) (unclaimed : (s.prof p).claim = none)
    (ne : k ≠ l) : (s.judge l p b).lane k = s.lane k := by
  unfold State.judge
  rw [State.releaseHolder_lane_unclaimed (by rw [State.setLane_prof, State.judgeEffect_claim, unclaimed]),
    State.setLane_lane, if_neg ne.symm, State.judgeEffect_lane_ne _ _ _ ne]

/-! ### The checkout (R147 to R153) -/

theorem State.becomeHolder_eq (u : State) (l : Fin 12) (p : Fin 384) : u.becomeHolder l p = { u with
    lanes := u.lanes.set l { u.lane l with
      role := .holder p
      vec := if (u.lane l).grant.grant.ranging = false ∧ (u.prof p).state = .bound then (u.prof p).current
        else defaultVector
      bias := if (u.lane l).grant.grant.ranging = false ∧ (u.prof p).state = .bound then (u.prof p).bias else 0
      cold := !decide ((u.lane l).grant.grant.ranging = false ∧ (u.prof p).state = .bound) }
    profiles := u.profiles.set p { u.prof p with holder := some l } } := by
  unfold State.becomeHolder
  rw [Lane.withPreload_eq]
  rfl

/-- The checkout of a grant whose key is present (R149, R150). -/
theorem State.checkout_bound {l : Fin 12} {p : Fin 384} (keyed : (s.lane l).grant.grant.station ≠ 16383)
    (present : s.lookup ⟨(s.lane l).grant.grant.station, (s.lane l).channel⟩ = some p) :
    s.checkout l =
      if (s.lane l).grant.grant.noWriteback then
        if preloadCold (s.lane l).grant.grant (s.prof p) then s.setLane l ((s.lane l).asColdGuest (some p))
        else s.setLane l ((s.lane l).asGuest p (s.prof p))
      else s.checkoutCandidate l p := by
  unfold State.checkout
  simp only [keyed, if_false, present]

/-- Settles O42, role by role. -/
theorem checkoutFixesTheRole : Obligations.CheckoutFixesTheRole := by
  unfold Obligations.CheckoutFixesTheRole
  rintro s l _ _ rfl rfl
  refine ⟨fun open_ => ?_, fun keyed absent => ?_, fun p keyed present => ⟨fun noWriteback cold => ?_,
    fun noWriteback ranging bound => ?_, fun candidate vacant => ?_, fun h candidate held =>
      ⟨fun receiving unclaimed => ?_, fun receiving claimed => ?_, fun u closing ne unclaimed judged => ?_⟩⟩⟩
  · simp only [State.checkout, open_, if_true]; rfl
  · simp only [State.checkout, keyed, if_false, absent]; rfl
  · have notWarm : preloadCold (s.lane l).grant.grant (s.prof p) = true := by
      rw [← Bool.not_eq_false, preloadCold_iff]
      rintro ⟨steady, bound⟩
      rcases cold with ranging | stale
      · exact Bool.false_ne_true (steady.symm.trans ranging)
      · exact ProfileState.noConfusion (bound.symm.trans stale)
    rw [State.checkout_bound keyed present, if_pos noWriteback, if_pos notWarm]; rfl
  · have warm : preloadCold (s.lane l).grant.grant (s.prof p) = false := preloadCold_iff.2 ⟨ranging, bound⟩
    rw [State.checkout_bound keyed present, if_pos noWriteback, warm, if_neg Bool.false_ne_true, Lane.asGuest,
      Lane.withPreload, warm]
    rfl
  · rw [State.checkout_bound keyed present, if_neg (by simp [candidate]), State.checkoutCandidate, vacant]
    exact s.becomeHolder_eq l p
  · rw [State.checkout_bound keyed present, if_neg (by simp [candidate]), State.checkoutCandidate, held]
    dsimp only
    rw [if_neg receiving, if_pos unclaimed]; rfl
  · rw [State.checkout_bound keyed present, if_neg (by simp [candidate]), State.checkoutCandidate, held]
    dsimp only
    rw [if_neg receiving, if_neg claimed, Lane.asGuest, Lane.withPreload_eq]; rfl
  · have own : u.lane l = s.lane l := judged ▸ State.judge_lane_unclaimed true unclaimed ne.symm
    rw [State.checkout_bound keyed present, if_neg (by simp [candidate]), State.checkoutCandidate, held]
    dsimp only
    rw [if_pos closing, judged, State.becomeHolder_eq, own]

/-! ### What an abort hands over (R74, R75, R76) -/

/-- A record as its lane hands it over at this event (R12, R174). -/
def State.handover (s : State) (l : Fin 12) (r : BurstRecord) : BurstRecord :=
  { r with flags := (s.lane l).emittedFlags r.flags, counter := s.counter }

theorem State.emitLane_eq (s : State) (l : Fin 12) (r : BurstRecord) :
    s.emitLane l r = s.setOutput (s.output.placeRecord (s.handover l r)) := rfl

/-- The record that the abort of a lane hands over: in CLOSING the one it has fixed (R75, R76). -/
def State.abortHands (s : State) (l : Fin 12) (c : AbortCause) : Option BurstRecord :=
  if (s.lane l).state = .closing then (s.lane l).record.map (s.handover l)
  else if (s.chan (s.lane l).channel).disposition = .silent then none
  else some (s.handover l ((s.lane l).abortRecord l c (s.chan (s.lane l).channel).disposition))

/-- A record placed when there is one. -/
def OutputQueue.placeAny (o : OutputQueue) : Option BurstRecord → OutputQueue
  | none => o
  | some r => o.placeRecord r

@[simp] theorem OutputQueue.placeAny_none (o : OutputQueue) : o.placeAny none = o := rfl
@[simp] theorem OutputQueue.placeAny_some (o : OutputQueue) (r : BurstRecord) : o.placeAny (some r) = o.placeRecord r := rfl

/-- An abort before a head falls back and before its channel settles (R74, R76). -/
def State.vacate (s : State) (l : Fin 12) (c : AbortCause) : State :=
  ((s.setOutput (s.output.placeAny (s.abortHands l c))).setLane l Lane.idle).releaseRole (s.lane l).role

theorem State.headFollows_of_closing {l : Fin 12} (closing : (s.lane l).state = .closing) : s.headFollows l = false := by
  unfold State.headFollows
  split
  · rfl
  · simp [Lane.precedes, closing, LaneState.receiving]

theorem State.waits_of_headFollows {l : Fin 12} (follows : s.headFollows l = true) :
    ∃ g rest, s.queue (s.lane l).channel = g :: rest := by
  unfold State.headFollows at follows
  cases waits : s.queue (s.lane l).channel with
  | nil => simp [waits] at follows
  | cons g rest => exact ⟨g, rest, rfl⟩

/-- What an abort does, for every cause (R74, R76). -/
theorem State.abortLane_eq (s : State) (c : AbortCause) (b : Bool) {l : Fin 12} (busy : (s.lane l).state ≠ .free) :
    State.abortLane c b s l =
      (if s.headFollows l && (c == .timebaseStep || c == .inputLost) then
        (s.vacate l c).fallback (s.lane l).channel b else s.vacate l c).settle (s.lane l).channel := by
  have receiving (other : (s.lane l).state ≠ .closing) : s.abortReceiving l c b =
      (if s.headFollows l && (c == .timebaseStep || c == .inputLost) then
        (s.vacate l c).fallback (s.lane l).channel b else s.vacate l c).settle (s.lane l).channel := by
    have handed : (if (s.chan (s.lane l).channel).disposition = .silent then s else
        s.emitLane l ((s.lane l).abortRecord l c (s.chan (s.lane l).channel).disposition)) =
        s.setOutput (s.output.placeAny (s.abortHands l c)) := by
      rw [State.abortHands, if_neg other]
      by_cases silent : (s.chan (s.lane l).channel).disposition = .silent
      · rw [if_pos silent, if_pos silent]; rfl
      · rw [if_neg silent, if_neg silent, OutputQueue.placeAny_some, State.emitLane_eq]
    unfold State.abortReceiving
    dsimp only
    rw [handed, State.vacate]
  unfold State.abortLane
  cases state : (s.lane l).state with
  | free => exact absurd state busy
  | closing =>
    have alone := State.headFollows_of_closing state
    rw [alone, Bool.false_and, if_neg Bool.false_ne_true]
    have handed : (match (s.lane l).record with | none => s | some r => s.emitLane l r) =
        s.setOutput (s.output.placeAny (s.abortHands l c)) := by
      rw [State.abortHands, if_pos state]
      cases (s.lane l).record with
      | none => rfl
      | some r => rw [Option.map_some, OutputQueue.placeAny_some]; exact s.emitLane_eq l r
    rw [State.vacate, ← handed]
    rfl
  | armed | searching | training | tracking => exact receiving (by simp [state])

theorem State.vacate_output (s : State) (l : Fin 12) (c : AbortCause) :
    (s.vacate l c).output = s.output.placeAny (s.abortHands l c) :=
  (State.releaseRole_work _ _).output_of_releasing

theorem State.vacate_queue (s : State) (l : Fin 12) (c : AbortCause) (ch : Fin 6) :
    (s.vacate l c).queue ch = s.queue ch := Work.judging_queue (State.releaseRole_work _ _).judging ch

theorem State.vacate_chan (s : State) (l : Fin 12) (c : AbortCause) (ch : Fin 6) :
    (s.vacate l c).chan ch = s.chan ch := by
  have := (State.releaseRole_work ((s.setOutput (s.output.placeAny (s.abortHands l c))).setLane l Lane.idle)
    (s.lane l).role).judging.channels_of_judging
  simp only [State.vacate, State.chan, this]; rfl

theorem State.vacate_frame (s : State) (l : Fin 12) (c : AbortCause) : Frame s (s.vacate l c) :=
  Frame.trans (t := (s.setOutput (s.output.placeAny (s.abortHands l c))).setLane l Lane.idle)
    ⟨rfl, rfl, rfl, rfl, rfl, rfl, rfl, fun _ => rfl⟩ (State.releaseRole_work _ _).frame

theorem State.vacate_lane_state (s : State) (l : Fin 12) (c : AbortCause) :
    ((s.vacate l c).lane l).state = .free := State.releaseRole_idle_state _ _ _

/-- Records and flags, as an abort before CLOSING has them (R75). -/
theorem State.abortRecord_yields {l : Fin 12} (c : AbortCause) (d : Disposition) (receives : (s.lane l).state ≠ .closing) :
    (s.lane l).AbortYields l c d s.counter (s.handover l ((s.lane l).abortRecord l c d)) where
  closing := fun e => absurd e receives
  identity _ := ⟨rfl, rfl, rfl, rfl, rfl, rfl⟩
  outcome _ := ⟨rfl, rfl, rfl, rfl, rfl⟩
  measurement _ := rfl
  sums _ := by
    simp only [State.handover, Lane.abortRecord, Lane.fixRecord, beq_iff_eq]
  symbols _ := rfl
  ranging _ := by
    simp only [State.handover, Lane.abortRecord, Lane.fixRecord]
    cases (s.lane l).grant.grant.ranging <;> rfl
  emitted := ⟨rfl, rfl, rfl⟩

theorem BurstRecord.SameBurst.refl (r : BurstRecord) : r.SameBurst r :=
  ⟨rfl, rfl, rfl, rfl, rfl, rfl, rfl, rfl, rfl, rfl, rfl, rfl⟩

/-- The record fixed at the entry to CLOSING, as an abort hands it over (R76). -/
theorem State.closing_yields {l : Fin 12} (c : AbortCause) (d : Disposition) {a : BurstRecord}
    (closing : (s.lane l).state = .closing) (fixed : (s.lane l).record = some a) :
    (s.lane l).AbortYields l c d s.counter (s.handover l a) where
  closing _ := ⟨a, fixed, rfl, rfl, rfl, rfl, rfl, rfl, rfl, rfl, rfl, rfl, rfl, rfl⟩
  identity e := absurd closing e
  outcome e := absurd closing e
  measurement e := absurd closing e
  sums e := absurd closing e
  symbols e := absurd closing e
  ranging e := absurd closing e
  emitted := ⟨rfl, rfl, rfl⟩

/-! ### The window opening (R25, R61, R156) -/

theorem State.setLane_setLane (s : State) (l : Fin 12) (x y : Lane) : (s.setLane l x).setLane l y = s.setLane l y := by
  simp [State.setLane, Vector.set_set]

theorem exec_windowOpening {l : Fin 12} (running : s.resetHeld = false) :
    exec (.windowOpening l) s =
      .next (if (s.lane l).state = .armed ∧ (s.lane l).windowReached then s.openWindow l else s) := by
  show execWindowOpening l s = _
  rw [execWindowOpening, State.unlessReset_running _ _ running]

theorem State.openWindow_locked {l : Fin 12} (locked : (s.chan (s.lane l).channel).lock = .locked) :
    s.openWindow l = (s.claimAtWindow l).setLane l { (s.claimAtWindow l).lane l with
      state := .searching, buffer := [], preload := ((s.claimAtWindow l).lane l).vec } := by
  unfold State.openWindow
  rw [if_neg (by simp [locked])]

/-- A claim that is dropped while its profile stays (R156). -/
theorem State.dropClaim_standing {p : Fin 384} (stays : (s.prof p).state ≠ .retiring ∨ (s.prof p).holder ≠ none) :
    s.dropClaim p = s.setProf p { s.prof p with claim := none } := by
  unfold State.dropClaim State.retireIfReleased
  rw [State.setProf_prof, if_pos rfl]
  exact if_neg fun ⟨retiring, vacant, _⟩ => stays.elim (fun ne => ne retiring) fun ne => ne vacant

/-- The window opens on a claim whose profile stays (R156, R159). -/
theorem State.openWindow_claim {l : Fin 12} {p : Fin 384} {y : Lane} (locked : (s.chan (s.lane l).channel).lock = .locked)
    (claims : (s.lane l).role = .claim p) (stays : (s.prof p).state ≠ .retiring ∨ (s.prof p).holder ≠ none)
    (guest : (if (s.prof p).state = .retiring then (s.lane l).asColdGuest (some p)
      else (s.lane l).asGuest p (s.prof p)) = y) :
    s.openWindow l = { s with
      lanes := s.lanes.set l { y with state := .searching, buffer := [], preload := y.vec }
      profiles := s.profiles.set p { s.prof p with claim := none } } := by
  have dropped : s.claimAtWindow l = (s.setLane l y).setProf p { s.prof p with claim := none } := by
    unfold State.claimAtWindow
    rw [claims]
    dsimp only
    rw [guest, State.dropClaim_standing (by rwa [State.setLane_prof]), State.setLane_prof]
  rw [State.openWindow_locked locked, dropped, State.setProf_lane, State.setLane_lane, if_pos rfl]
  simp only [State.setLane, State.setProf, Vector.set_set]

theorem State.openWindow_unclaimed {l : Fin 12} (locked : (s.chan (s.lane l).channel).lock = .locked)
    (claims : ∀ p, (s.lane l).role ≠ .claim p) :
    s.openWindow l = s.setLane l { s.lane l with state := .searching, buffer := [], preload := (s.lane l).vec } := by
  have same : s.claimAtWindow l = s := by
    unfold State.claimAtWindow
    cases role : (s.lane l).role with
    | claim p => exact absurd role (claims p)
    | none | holder p | guest p | coldGuest p => rfl
  rw [State.openWindow_locked locked, same]

/-- The window opens on a channel whose lock is LOST: the lane is aborted, and a head linked to it falls to NO_INPUT. -/
theorem State.openWindow_lost {l : Fin 12} (armed : (s.lane l).state = .armed)
    (lost : (s.chan (s.lane l).channel).lock = .lost) :
    s.openWindow l = (if s.headFollows l then (s.vacate l .inputLost).fallback (s.lane l).channel false
      else s.vacate l .inputLost).settle (s.lane l).channel := by
  have cause : (AbortCause.inputLost == AbortCause.timebaseStep || AbortCause.inputLost == AbortCause.inputLost) = true := rfl
  unfold State.openWindow
  rw [if_pos lost, State.abortLane_eq _ _ _ (by simp [armed]), cause, Bool.and_true]

theorem State.headRecord_eq (s : State) (ch : Fin 6) (g : QueuedGrant) (outcome : BurstOutcome) :
    s.headRecord ch g outcome =
      { channel := ch, cls := g.grant.cls, modulation := (s.chan ch).classes[g.grant.cls].modulation
        outcome := outcome, cause := none, station := g.grant.station, start := g.grant.start
        counter := s.timebase.counter
        flags := { RecordFlags.clear with holdover := s.timebase.sync == .holdover }
        gate := none, lane := none, laneSection := none, measurement := none, sums := none, recentre := none
        symbols := none, ranging := none } := rfl

theorem State.headRecord_vacate (s : State) (l : Fin 12) (c : AbortCause) (ch : Fin 6) (g : QueuedGrant)
    (outcome : BurstOutcome) : (s.vacate l c).headRecord ch g outcome = s.headRecord ch g outcome := by
  rw [State.headRecord_eq, State.headRecord_eq, State.vacate_chan, (s.vacate_frame l c).timebase]

@[simp] theorem State.settle_output (s : State) (ch : Fin 6) : (s.settle ch).output = s.output := by
  unfold State.settle; split <;> rfl

@[simp] theorem State.settle_queue (s : State) (ch k : Fin 6) : (s.settle ch).queue k = s.queue k := by
  unfold State.settle
  split
  · exact State.setChanState_queue _ _ _ _
  · rfl

/-- Settles O43: the search, the guest that a dropped claim makes, and the abort. -/
theorem windowOpeningStartsTheSearch : Obligations.WindowOpeningStartsTheSearch := by
  unfold Obligations.WindowOpeningStartsTheSearch
  rintro s l _ running rfl
  rw [exec_windowOpening running]
  refine ⟨fun early => ?_, fun armed reached locked unclaimed => ?_, fun p _ warm armed reached locked claims prof isWarm stays => ?_,
    fun p armed reached locked claims retiring held => ?_, fun armed reached lost early => ?_⟩
  · rw [if_neg fun due => early.elim (fun ne => ne due.1) fun no => Bool.false_ne_true (no.symm.trans due.2)]
  · rw [if_pos ⟨armed, reached⟩, State.openWindow_unclaimed locked unclaimed]; rfl
  · subst prof
    have standing : (s.prof p).state ≠ .retiring := by simpa using stays
    have asGuest : (if (s.prof p).state = .retiring then (s.lane l).asColdGuest (some p)
        else (s.lane l).asGuest p (s.prof p)) = { s.lane l with
          role := .guest p, guest := true, cold := !warm
          vec := if warm then (s.prof p).current else defaultVector
          bias := if warm then (s.prof p).bias else 0 } := by
      have cold : preloadCold (s.lane l).grant.grant (s.prof p) = !warm := by
        rw [isWarm, preloadCold, Bool.not_and, Bool.not_not]; rfl
      rw [if_neg standing, Lane.asGuest, Lane.withPreload, cold]
      cases warm <;> rfl
    rw [if_pos ⟨armed, reached⟩, State.openWindow_claim locked claims (.inl standing) asGuest]
  · rw [if_pos ⟨armed, reached⟩, State.openWindow_claim locked claims (.inr held) (if_pos retiring)]; rfl
  · rw [if_pos ⟨armed, reached⟩, State.openWindow_lost armed lost]
    have receives : (s.lane l).state ≠ .closing := by simp [armed]
    have hands : s.abortHands l .inputLost = if (s.chan (s.lane l).channel).disposition = .silent then none else
        some (s.handover l ((s.lane l).abortRecord l .inputLost (s.chan (s.lane l).channel).disposition)) := by
      rw [State.abortHands, if_neg receives]
    have vacated := s.vacate_lane_state l .inputLost
    have fallsBack {g : QueuedGrant} {rest : List QueuedGrant} (waits : s.queue (s.lane l).channel = g :: rest) :=
      State.fallback_fails (s := s.vacate l .inputLost) (outcome := .noInput) ((s.vacate_queue l _ _).trans waits)
        (by rwa [waits, List.tail_cons] at early) (.inl ⟨by rwa [State.vacate_chan], rfl⟩)
    refine ⟨_, _, (s.vacate l .inputLost).output, rfl, ?_, State.abortRecord_yields _ _ receives, ?_, fun alone => ?_,
      fun g rest follows waits => ?_⟩
    · rw [State.settle_lane]
      split
      · rename_i follows
        obtain ⟨g, rest, waits⟩ := State.waits_of_headFollows follows
        rw [fallsBack waits]
        exact vacated
      · exact vacated
    · rw [State.vacate_output, hands]
      split <;> rfl
    · rw [alone, if_neg Bool.false_ne_true, State.settle_output, State.settle_queue, State.vacate_queue]
      exact ⟨rfl, rfl⟩
    · rw [if_pos follows, State.settle_output, State.settle_queue, fallsBack waits, State.setOutput_output,
        State.setOutput_queue, State.setQueue_queue, if_pos rfl, State.headRecord_vacate, State.headRecord_eq]
      exact ⟨rfl, by cases rest <;> rfl⟩

end Sys2Proof.Machine
end

section
/-! Halts (R10, R19, R23): what the aborts of a channel hand over, and what they leave. -/

namespace Sys2Proof.Machine

variable {s t : State} {c : AbortCause}

/-! ### What the release of a role leaves of a lane (R74, R157) -/

/-- Two standings of a lane hand over the same at an abort: they differ in what a checkout fixes alone. -/
structure Lane.SameHandover (y x : Lane) : Prop where
  service : y.SameService x
  record : y.record = x.record
  member : y.member = x.member
  symbols : y.symbols = x.symbols
  saturated : y.saturated = x.saturated
  holdoverMark : y.holdoverMark = x.holdoverMark
  forwarded : y.forwarded = x.forwarded
  overridden : y.overridden = x.overridden

theorem Lane.SameHandover.refl (x : Lane) : x.SameHandover x := ⟨Lane.SameService.rfl x, rfl, rfl, rfl, rfl, rfl, rfl, rfl⟩

theorem Lane.SameHandover.trans {x y z : Lane} (h : z.SameHandover y) (k : y.SameHandover x) : z.SameHandover x :=
  ⟨h.service.trans k.service, h.record.trans k.record, h.member.trans k.member, h.symbols.trans k.symbols,
    h.saturated.trans k.saturated, h.holdoverMark.trans k.holdoverMark, h.forwarded.trans k.forwarded,
    h.overridden.trans k.overridden⟩

theorem Lane.SameHandover.state {x y : Lane} (h : y.SameHandover x) : y.state = x.state := h.service.1
theorem Lane.SameHandover.channel {x y : Lane} (h : y.SameHandover x) : y.channel = x.channel := h.service.2.2.1

theorem Lane.asColdGuest_handover (x : Lane) (p : Option (Fin 384)) : (x.asColdGuest p).SameHandover x :=
  ⟨x.asColdGuest_service p, rfl, rfl, rfl, rfl, rfl, rfl, rfl⟩

theorem Lane.withPreload_handover (x : Lane) (q : Profile) (r : Role) :
    Lane.SameHandover { x.withPreload q with role := r } x := by
  rw [Lane.withPreload_eq]
  exact ⟨⟨rfl, rfl, rfl, rfl, rfl⟩, rfl, rfl, rfl, rfl, rfl, rfl, rfl⟩

theorem State.setLane_handover {l : Fin 12} {x : Lane} (same : x.SameHandover (s.lane l)) (k : Fin 12) :
    ((s.setLane l x).lane k).SameHandover (s.lane k) := by
  rw [State.setLane_lane]
  split
  · rename_i e; exact e ▸ same
  · exact .refl _

theorem State.becomeHolder_handover (s : State) (l : Fin 12) (p : Fin 384) (k : Fin 12) :
    ((s.becomeHolder l p).lane k).SameHandover (s.lane k) :=
  State.setLane_handover ((s.lane l).withPreload_handover _ _) k

theorem State.resolveClaim_handover (s : State) (p : Fin 384) (k : Fin 12) :
    ((s.resolveClaim p).lane k).SameHandover (s.lane k) := by
  unfold State.resolveClaim
  split
  · exact .refl _
  · dsimp only
    split
    · exact State.setLane_handover (s := s.setProf p _) (Lane.asColdGuest_handover _ _) k
    · exact State.becomeHolder_handover (s.setProf p _) _ p k

theorem State.releaseHolder_handover (s : State) (p : Fin 384) (k : Fin 12) :
    ((s.releaseHolder p).lane k).SameHandover (s.lane k) := by
  unfold State.releaseHolder
  rw [State.retireIfReleased_lane]
  exact State.resolveClaim_handover (s.setProf p _) p k

theorem State.releaseRole_handover (s : State) (r : Role) (k : Fin 12) :
    ((s.releaseRole r).lane k).SameHandover (s.lane k) := by
  cases r with
  | holder p => exact s.releaseHolder_handover p k
  | claim p => rw [State.releaseRole, State.dropClaim_lane]; exact .refl _
  | none | guest p | coldGuest p => exact .refl _

/-- An abort leaves every other lane as it would be handed over. -/
theorem State.vacate_handover (s : State) {l k : Fin 12} (c : AbortCause) (ne : k ≠ l) :
    ((s.vacate l c).lane k).SameHandover (s.lane k) := by
  have released := State.releaseRole_handover ((s.setOutput (s.output.placeAny (s.abortHands l c))).setLane l Lane.idle)
    (s.lane l).role k
  rwa [State.setLane_lane, if_neg ne.symm, State.setOutput_lane] at released

/-! ### The records of the aborts of a halt -/

/-- The record that an abort of a lane hands over, as the lane stood (R75, R76). -/
structure State.HandsOver (s : State) (c : AbortCause) (l : Fin 12) (r : BurstRecord) : Prop where
  yields : (s.lane l).AbortYields l c (s.chan (s.lane l).channel).disposition s.counter r
  fixed : (s.lane l).state = .closing → ∃ f, (s.lane l).record = some f ∧ r = s.handover l f

theorem State.abortHands_handsOver {l : Fin 12} {r : BurstRecord} (hands : s.abortHands l c = some r) :
    s.HandsOver c l r := by
  unfold State.abortHands at hands
  split at hands
  · rename_i closing
    obtain ⟨f, fixed, rfl⟩ := Option.map_eq_some_iff.1 hands
    exact ⟨State.closing_yields c _ closing fixed, fun _ => ⟨f, fixed, rfl⟩⟩
  · rename_i receives
    split at hands
    · cases hands
    · cases hands
      exact ⟨State.abortRecord_yields c _ receives, fun closing => absurd closing receives⟩

/-- The abort of the lane yields a record (R19, R75). -/
def State.emitsAtAbort (s : State) (l : Fin 12) : Bool := (s.lane l).abortEmits (s.chan (s.lane l).channel).disposition

theorem State.abortHands_isSome {l : Fin 12} (busy : (s.lane l).state ≠ .free) :
    (s.abortHands l c).isSome = s.emitsAtAbort l := by
  unfold State.abortHands State.emitsAtAbort Lane.abortEmits
  have early (receives : (s.lane l).state ≠ .closing) :
      Option.isSome (if (s.lane l).state = .closing then (s.lane l).record.map (s.handover l)
        else if (s.chan (s.lane l).channel).disposition = .silent then none
        else some (s.handover l ((s.lane l).abortRecord l c (s.chan (s.lane l).channel).disposition))) =
      ((s.chan (s.lane l).channel).disposition != .silent) := by
    rw [if_neg receives]
    by_cases silent : (s.chan (s.lane l).channel).disposition = .silent <;> simp [silent]
  cases state : (s.lane l).state with
  | free => exact absurd state busy
  | closing => simp
  | armed | searching | training | tracking => simpa [state] using early

/-- A record handed over by a lane that stood alike is one handed over by the lane. -/
theorem State.HandsOver.congr {l : Fin 12} {r : BurstRecord} (h : t.HandsOver c l r)
    (same : (t.lane l).SameHandover (s.lane l))
    (disposition : (t.chan (s.lane l).channel).disposition = (s.chan (s.lane l).channel).disposition)
    (counter : t.counter = s.counter) : s.HandsOver c l r := by
  obtain ⟨⟨closing, identity, outcome, measurement, sums, symbols, ranging, emitted⟩, fixed⟩ := h
  obtain ⟨⟨state, grant, channel, measured, cls⟩, record, member, listed, saturated, holdover, forwarded, overridden⟩ := same
  rw [state] at closing identity outcome measurement sums symbols ranging fixed
  rw [channel, disposition] at symbols
  rw [record] at closing fixed
  rw [channel, cls, grant] at identity
  rw [measured] at measurement
  rw [member] at sums
  rw [listed] at symbols
  rw [grant] at ranging
  rw [saturated, holdover, counter] at emitted
  refine ⟨⟨closing, identity, outcome, measurement, sums, symbols, ranging, emitted⟩, fun e => ?_⟩
  obtain ⟨f, found, rfl⟩ := fixed e
  refine ⟨f, found, ?_⟩
  simp only [State.handover, Lane.emittedFlags, saturated, holdover, forwarded, overridden, counter]

/-- The records of the aborts of the lanes `ls`, in order (R77). -/
structure State.AbortsHand (s : State) (c : AbortCause) (ls : List (Fin 12)) (o : OutputQueue)
    (rs : List (Fin 12 × BurstRecord)) : Prop where
  lanes : rs.map (·.1) = ls.filter s.emitsAtAbort
  handed : ∀ a ∈ rs, s.HandsOver c a.1 a.2
  output : o = s.output.placeAll s.counter (rs.map fun a => .aborted a.1 a.2)

theorem State.AbortsHand.nil (s : State) (c : AbortCause) : s.AbortsHand c [] s.output [] :=
  ⟨rfl, fun _ h => absurd h List.not_mem_nil, rfl⟩

/-- Further aborts, of lanes that still stand as before (R77). -/
theorem State.AbortsHand.append {ls ks : List (Fin 12)} {o : OutputQueue} {rs qs : List (Fin 12 × BurstRecord)}
    (first : s.AbortsHand c ls t.output rs) (rest : t.AbortsHand c ks o qs)
    (stands : ∀ k ∈ ks, s.emitsAtAbort k = t.emitsAtAbort k ∧
      (t.emitsAtAbort k = true → ∀ r, t.HandsOver c k r → s.HandsOver c k r))
    (counter : t.counter = s.counter) : s.AbortsHand c (ls ++ ks) o (rs ++ qs) where
  lanes := by
    rw [List.map_append, List.filter_append, first.lanes, rest.lanes]
    exact congrArg _ (List.filter_congr fun k hk => (stands k hk).1.symm)
  handed a mem := by
    rcases List.mem_append.1 mem with mem | mem
    · exact first.handed a mem
    · have emits : a.1 ∈ ks.filter t.emitsAtAbort := rest.lanes ▸ List.mem_map_of_mem mem
      obtain ⟨listed, emits⟩ := List.mem_filter.1 emits
      exact (stands a.1 listed).2 emits a.2 (rest.handed a mem)
  output := by
    rw [rest.output, first.output, counter, List.map_append, OutputQueue.placeAll, OutputQueue.placeAll,
      OutputQueue.placeAll, List.foldl_append]

/-- A lane that stands as it would be handed over emits alike. -/
theorem State.emitsAtAbort_congr {k : Fin 12} (same : (t.lane k).SameHandover (s.lane k))
    (disposition : (t.chan (s.lane k).channel).disposition = (s.chan (s.lane k).channel).disposition) :
    t.emitsAtAbort k = s.emitsAtAbort k := by
  unfold State.emitsAtAbort Lane.abortEmits
  rw [same.state, same.record, same.channel, disposition]

/-! ### The aborts of a halt (R23, R77) -/

theorem State.abortLane_free {l : Fin 12} (b : Bool) (free : (s.lane l).state = .free) : State.abortLane c b s l = s := by
  rw [State.abortLane, free]

@[simp] theorem OutputQueue.placeAll_nil (o : OutputQueue) (n : Tick) : o.placeAll n [] = o := rfl

@[simp] theorem OutputQueue.placeAll_aborted (o : OutputQueue) (n : Tick) (l : Fin 12) (r : BurstRecord)
    (hs : List Handed) : o.placeAll n (.aborted l r :: hs) = (o.placeRecord r).placeAll n hs := by
  simp only [OutputQueue.placeAll, List.foldl_cons, OutputQueue.placeHanded]

section Halts

variable (hstep : c ≠ .timebaseStep) (hinput : c ≠ .inputLost)
include hstep hinput

/-- An abort after which no head falls back. -/
theorem State.abortLane_alone (s : State) {l : Fin 12} (busy : (s.lane l).state ≠ .free) :
    State.abortLane c false s l = (s.vacate l c).settle (s.lane l).channel := by
  rw [State.abortLane_eq s c false busy, beq_eq_false_iff_ne.2 hstep, beq_eq_false_iff_ne.2 hinput, Bool.or_self,
    Bool.and_false, if_neg Bool.false_ne_true]

theorem State.abortLane_handover (s : State) {l k : Fin 12} (ne : k ≠ l) :
    ((State.abortLane c false s l).lane k).SameHandover (s.lane k) := by
  by_cases busy : (s.lane l).state = .free
  · rw [State.abortLane_free false busy]; exact .refl _
  · rw [State.abortLane_alone hstep hinput s busy, State.settle_lane]
    exact s.vacate_handover c ne

theorem State.abortLane_hands (s : State) (l : Fin 12) :
    ∃ rs, s.AbortsHand c [l] (State.abortLane c false s l).output rs := by
  by_cases busy : (s.lane l).state = .free
  · rw [State.abortLane_free false busy]
    exact ⟨[], by simp [State.emitsAtAbort, Lane.abortEmits, busy], fun _ mem => absurd mem List.not_mem_nil, by simp⟩
  · have emits := State.abortHands_isSome (c := c) busy
    rw [State.abortLane_alone hstep hinput s busy, State.settle_output, State.vacate_output]
    cases hands : s.abortHands l c with
    | none => exact ⟨[], by simp [← emits, hands], fun _ mem => absurd mem List.not_mem_nil, by simp⟩
    | some r =>
      refine ⟨[(l, r)], by simp [← emits, hands], fun a mem => ?_, by simp [OutputQueue.placeAll, OutputQueue.placeHanded]⟩
      obtain rfl := List.mem_singleton.1 mem
      exact State.abortHands_handsOver hands

/-- What the aborts of a list of lanes hand over, each as it stood at the start. -/
theorem State.abortLanes_hand : ∀ (ls : List (Fin 12)) (s : State), ls.Nodup →
    (∃ rs, s.AbortsHand c ls (s.abortLanes c false ls).output rs) ∧
      ∀ k, k ∉ ls → ((s.abortLanes c false ls).lane k).SameHandover (s.lane k)
  | [], s, _ => ⟨⟨[], .nil s c⟩, fun _ _ => .refl _⟩
  | l :: ls, s, distinct => by
    obtain ⟨fresh, distinct⟩ := List.nodup_cons.1 distinct
    obtain ⟨rs, first⟩ := State.abortLane_hands hstep hinput s l
    obtain ⟨⟨qs, rest⟩, kept⟩ := State.abortLanes_hand ls (State.abortLane c false s l) distinct
    have frame := (State.abortLane_aborting (ls := [l]) hstep hinput false s List.mem_cons_self).frame
    have same {k : Fin 12} (ne : k ≠ l) := State.abortLane_handover hstep hinput s ne
    have disposition (ch : Fin 6) : ((State.abortLane c false s l).chan ch).disposition = (s.chan ch).disposition := by
      rw [frame.chan ch]
    have counter : (State.abortLane c false s l).counter = s.counter := congrArg Timebase.counter frame.timebase
    refine ⟨⟨rs ++ qs, first.append rest (fun k mem => ?_) counter⟩, fun k out => ?_⟩
    · have ne : k ≠ l := fun e => fresh (e ▸ mem)
      exact ⟨(State.emitsAtAbort_congr (same ne) (disposition _)).symm,
        fun _ r h => h.congr (same ne) (disposition _) counter⟩
    · rw [List.mem_cons, not_or] at out
      exact (kept k out.2).trans (same out.1)

theorem State.abortLane_chan (s : State) {l : Fin 12} {k : Fin 6} (other : (s.lane l).channel ≠ k) :
    (State.abortLane c false s l).chan k = s.chan k := by
  by_cases busy : (s.lane l).state = .free
  · rw [State.abortLane_free false busy]
  · rw [State.abortLane_alone hstep hinput s busy, State.settle_eq, State.setChan_chan, if_neg other, State.vacate_chan]

theorem State.abortLanes_chan {ch k : Fin 6} (other : ch ≠ k) : ∀ (ls : List (Fin 12)) (s : State), ls.Nodup →
    (∀ l ∈ ls, (s.lane l).channel = ch) → (s.abortLanes c false ls).chan k = s.chan k
  | [], _, _, _ => rfl
  | l :: ls, s, distinct, own => by
    obtain ⟨fresh, distinct⟩ := List.nodup_cons.1 distinct
    refine (State.abortLanes_chan other ls (State.abortLane c false s l) distinct fun j mem => ?_).trans
      (State.abortLane_chan hstep hinput s (own l List.mem_cons_self ▸ other))
    have ne : j ≠ l := by rintro rfl; exact fresh mem
    rw [(State.abortLane_handover hstep hinput s ne).channel]
    exact own j (List.mem_cons_of_mem _ mem)

end Halts

/-- A channel is halted (R10, R19, R23): the records handed over, the lanes freed, what all else keeps. -/
structure State.Halts (s t : State) (ch : Fin 6) (c : AbortCause) (rs : List (Fin 12 × BurstRecord)) : Prop where
  hand : s.AbortsHand c (s.lanesOf ch) t.output rs
  own : t.chan ch = { s.chan ch with state := .ready, queue := [] }
  others : ∀ k, k ≠ ch → t.chan k = s.chan k
  freed : ∀ l, s.serves l ch = true → (t.lane l).state = .free
  kept : ∀ l, s.serves l ch = false → (t.lane l).SameHandover (s.lane l)
  frame : Frame s t

theorem State.haltChannel_halts (hstep : c ≠ .timebaseStep) (hinput : c ≠ .inputLost) (s : State) (ch : Fin 6) :
    ∃ rs, s.Halts (s.haltChannel ch c) ch c rs := by
  have distinct : (s.lanesOf ch).Nodup := List.Nodup.filter _ (by decide)
  obtain ⟨⟨rs, hand⟩, kept⟩ := State.abortLanes_hand hstep hinput (s.lanesOf ch) (s.flush ch) distinct
  have disposition (k : Fin 6) : ((s.flush ch).chan k).disposition = (s.chan k).disposition := by
    rw [(s.flush_frame ch).chan k]
  have serves {l : Fin 12} (mem : l ∈ s.lanesOf ch) : (s.lane l).channel = ch := by
    have := State.mem_lanesOf.1 mem
    simp only [State.serves, Bool.and_eq_true, beq_iff_eq] at this
    exact this.2
  have frame := s.haltChannel_frame hstep hinput ch
  have same (l : Fin 12) : ((s.flush ch).lane l).SameHandover (s.lane l) := .refl _
  refine ⟨rs, ⟨?_, fun a mem => (hand.handed a mem).congr (same _) (disposition _) rfl, hand.output⟩, ?_, fun k ne => ?_,
    fun l own => State.abortLanes_frees hstep hinput false _ (s.flush ch) (State.mem_lanesOf.2 own), fun l other => ?_, frame⟩
  · rw [hand.lanes]
    exact List.filter_congr fun l _ => State.emitsAtAbort_congr (same l) (disposition _)
  · have aborted := State.abortLanes_aborting (ls := (s.flush ch).lanesOf ch) hstep hinput false _ (s.flush ch) fun _ => id
    rw [frame.chan ch]
    simp only [State.haltChannel, State.setChanState_chan_state, State.setChanState_queue, if_true, aborted.aborting_queue]
    simp [State.flush]
  · have chan : (s.haltChannel ch c).chan k = ((s.flush ch).abortLanes c false (s.lanesOf ch)).chan k := by
      show (State.setChanState _ ch .ready).chan k = _
      rw [State.setChanState, State.setChan_chan, if_neg ne.symm]; rfl
    rw [chan, State.abortLanes_chan hstep hinput ne.symm _ (s.flush ch) distinct fun l mem => serves mem, State.flush,
      State.setQueue_chan, if_neg ne.symm]
  · refine kept l fun mem => ?_
    rw [State.mem_lanesOf.1 mem] at other
    cases other

/-! ### CHANNEL HALT (R23) -/

theorem OutputQueue.placeRecord_room {o : OutputQueue} {n : Nat} (r : BurstRecord) (room : n ≤ o.room) (small : n ≤ 4096) :
    n ≤ (o.placeRecord r).room := by
  have fill := o.placeRecord_fill r
  simp only [OutputQueue.room, Config.outputCapacity, Config.recordLimit] at *
  omega

/-- Records leave the room that a short response needs (R178, R179). -/
theorem OutputQueue.placeAborted_room {n : Nat} (small : n ≤ 4096) (counter : Tick) :
    ∀ (rs : List (Fin 12 × BurstRecord)) (o : OutputQueue), n ≤ o.room →
      n ≤ (o.placeAll counter (rs.map fun a => .aborted a.1 a.2)).room := by
  intro rs
  induction rs with
  | nil => exact fun o room => room
  | cons a rs ih =>
    intro o room
    rw [List.map_cons, OutputQueue.placeAll_aborted]
    exact ih _ (o.placeRecord_room a.2 room small)

theorem laneIds_eq : laneIds = List.finRange 12 := by decide

/-- The lanes of a channel that hand over a record. -/
theorem State.lanesOf_emitting (s : State) (ch : Fin 6) : (s.lanesOf ch).filter s.emitsAtAbort =
    (List.finRange 12).filter fun l => s.serves l ch && (s.lane l).abortEmits (s.chan ch).disposition := by
  rw [State.lanesOf, List.filter_filter, laneIds_eq]
  refine List.filter_congr fun l _ => ?_
  rw [Bool.and_comm]
  cases serves : s.serves l ch with
  | false => rfl
  | true =>
    simp only [State.serves, Bool.and_eq_true, beq_iff_eq] at serves
    rw [State.emitsAtAbort, serves.2]

theorem State.channels_eq_set {ch : Fin 6} {x : Channel} (own : t.chan ch = x) (others : ∀ k, k ≠ ch → t.chan k = s.chan k) :
    t.channels = s.channels.set ch x := by
  refine Vector.ext fun i hi => ?_
  by_cases same : ch = ⟨i, hi⟩
  · subst same; simpa [State.chan] using own
  · have ne : (ch : Nat) ≠ i := fun e => same (Fin.ext e)
    simpa [State.chan, Vector.getElem_set_ne, ne] using others ⟨i, hi⟩ (Ne.symm same)

/-- The halted channel's lanes hand over what they had. -/
theorem State.Halts.handed_own {ch : Fin 6} {rs : List (Fin 12 × BurstRecord)} (halted : s.Halts t ch c rs)
    (a : Fin 12 × BurstRecord) (mem : a ∈ rs) : s.HandsOver c a.1 a.2 ∧ (s.lane a.1).channel = ch := by
  refine ⟨halted.hand.handed a mem, ?_⟩
  have emits : a.1 ∈ (s.lanesOf ch).filter s.emitsAtAbort := halted.hand.lanes ▸ List.mem_map_of_mem mem
  have serves := State.mem_lanesOf.1 (List.mem_filter.1 emits).1
  simp only [State.serves, Bool.and_eq_true, beq_iff_eq] at serves
  exact serves.2

/-- Settles O26: the halt, then its response. -/
theorem channelHaltEmptiesAChannel : Obligations.ChannelHaltEmptiesAChannel := by
  unfold Obligations.ChannelHaltEmptiesAChannel
  intro s tag ch ready
  rw [exec_channelHalt_ready (by simp [writeChannel_length]) ready (readChannel_writeChannel (by omega)),
    State.onChannel_of_lt, State.channelHalt, State.taken_chan]
  refine ⟨fun active => ?_, fun quiet => ?_, fun off => ?_⟩
  · obtain ⟨rs, halted⟩ := State.haltChannel_halts (c := .channelHalt) (by decide) (by decide) s.taken ch
    have room := OutputQueue.placeAborted_room (n := 7) (by decide) s.counter rs _ ready.fits
    have response : (s.taken.haltChannel ch .channelHalt).respond ⟨kindChannelHalt, tag, writeChannel ch⟩ .ok
        (beBytes 1 (s.queue ch).length) =
        (s.taken.haltChannel ch .channelHalt).answered ⟨kindChannelHalt, tag, writeChannel ch⟩ .ok
          (beBytes 1 (s.queue ch).length) := by
      refine State.respond_eq_answered _ _ _ _ ?_
      rw [halted.hand.output, beBytes_length]
      exact room
    refine ⟨(s.taken.haltChannel ch .channelHalt).answered ⟨kindChannelHalt, tag, writeChannel ch⟩ .ok
      (beBytes 1 (s.queue ch).length), rs, ?_, ?_, fun l own => halted.freed l own, fun l other => ?_, ?_,
      fun a mem => ?_, ?_, halted.frame.timebase, halted.frame.patterns, halted.frame.directory, halted.frame.sweep,
      halted.frame.link, halted.frame.resetHeld⟩
    · rcases active with state | state <;> rw [state] <;> exact congrArg _ response
    · exact State.channels_eq_set halted.own halted.others
    · obtain ⟨state, grant, channel, -⟩ := (halted.kept l other).service
      exact ⟨state, grant, channel⟩
    · exact halted.hand.lanes.trans (s.taken.lanesOf_emitting ch)
    · obtain ⟨⟨yields, fixed⟩, channel⟩ := halted.handed_own a mem
      rw [channel] at yields
      exact ⟨yields, fixed⟩
    · exact congrArg (fun o => (({ s with output := o } : State).answered ⟨kindChannelHalt, tag, writeChannel ch⟩ .ok
        (beBytes 1 (s.queue ch).length)).output) halted.hand.output
  · rw [quiet]; exact congrArg _ (ready.respond _ _ (by simp))
  · rw [off]; exact congrArg _ (ready.respond _ _ (by simp))

end Sys2Proof.Machine
end

section
/-! The loss of sync (R10): the channels are halted one after another. -/

namespace Sys2Proof.Machine

variable {s t : State}

/-- The lanes that the loss of sync aborts on one channel (R10). -/
def State.lostLanes (s : State) (ch : Fin 6) : List (Fin 12) := if (s.chan ch).state.active then s.lanesOf ch else []

/-- What the loss of sync does to the channels `chs` (R10, R19). -/
structure State.LosesSync (s t : State) (chs : List (Fin 6)) (rs : List (Fin 12 × BurstRecord)) : Prop where
  hand : s.AbortsHand .syncLost (chs.flatMap s.lostLanes) t.output rs
  halted : ∀ ch ∈ chs, (s.chan ch).state.active = true → t.chan ch = { s.chan ch with state := .ready, queue := [] } ∧
    ∀ l, s.serves l ch = true → (t.lane l).state = .free
  spared : ∀ ch, (ch ∉ chs ∨ (s.chan ch).state.active = false) → t.chan ch = s.chan ch ∧
    ∀ l, s.serves l ch = true → (t.lane l).SameHandover (s.lane l)
  free : ∀ l, (s.lane l).state = .free → (t.lane l).state = .free
  frame : Frame s t

theorem State.serves_iff {l : Fin 12} {ch : Fin 6} :
    s.serves l ch = true ↔ (s.lane l).state ≠ .free ∧ (s.lane l).channel = ch := by simp [State.serves]

theorem State.haltIfActive_losesSync (s : State) (ch : Fin 6) : ∃ rs, s.LosesSync (s.haltIfActive ch) [ch] rs := by
  unfold State.haltIfActive
  by_cases active : (s.chan ch).state.active = true
  · obtain ⟨rs, halted⟩ := State.haltChannel_halts (c := .syncLost) (by decide) (by decide) s ch
    rw [if_pos active]
    refine ⟨rs, by simpa [State.lostLanes, active] using halted.hand, fun k mem _ => ?_, fun k quiet => ?_, fun l free => ?_,
      halted.frame⟩
    · obtain rfl := List.mem_singleton.1 mem
      exact ⟨halted.own, halted.freed⟩
    · have ne : k ≠ ch := by
        rintro rfl
        rcases quiet with out | quiet
        · exact out List.mem_cons_self
        · rw [active] at quiet; cases quiet
      refine ⟨halted.others k ne, fun l serves => halted.kept l ?_⟩
      rw [State.serves_eq_false]
      exact .inr ((State.serves_iff.1 serves).2.trans_ne ne)
    · exact (halted.kept l (State.serves_eq_false.2 (.inl free))).state.trans free
  · rw [if_neg active]
    refine ⟨[], by simpa [State.lostLanes, active] using State.AbortsHand.nil s _, fun k mem on => ?_, fun k _ =>
      ⟨rfl, fun _ _ => .refl _⟩, fun _ free => free, Frame.rfl s⟩
    obtain rfl := List.mem_singleton.1 mem
    exact absurd on active

/-- The loss of sync on one channel leaves which lanes serve another. -/
theorem State.LosesSync.serves {ch k : Fin 6} {rs : List (Fin 12 × BurstRecord)} (h : s.LosesSync t [ch] rs) (ne : k ≠ ch)
    (l : Fin 12) : t.serves l k = s.serves l k := by
  by_cases serves : s.serves l k = true
  · have same := (h.spared k (.inl (by simpa using ne))).2 l serves
    obtain ⟨busy, own⟩ := State.serves_iff.1 serves
    rw [serves, State.serves_iff, same.state, same.channel]
    exact ⟨busy, own⟩
  · rw [Bool.not_eq_true] at serves
    rw [serves, State.serves_eq_false]
    by_cases free : (s.lane l).state = .free
    · exact .inl (h.free l free)
    · have own : s.serves l (s.lane l).channel = true := State.serves_iff.2 ⟨free, rfl⟩
      by_cases halts : (s.lane l).channel = ch ∧ (s.chan ch).state.active = true
      · obtain ⟨rfl, active⟩ := halts
        exact .inl ((h.halted _ List.mem_cons_self active).2 l own)
      · have spared : (s.lane l).channel ∉ [ch] ∨ (s.chan (s.lane l).channel).state.active = false := by
          by_cases e : (s.lane l).channel = ch
          · right
            have quiet : ¬ (s.chan ch).state.active = true := fun on => halts ⟨e, on⟩
            rw [e]; simpa using quiet
          · left; simpa using e
        rw [((h.spared _ spared).2 l own).channel]
        exact .inr ((State.serves_eq_false.1 serves).resolve_left free)

theorem State.LosesSync.append {ch : Fin 6} {chs : List (Fin 6)} {u : State} {rs qs : List (Fin 12 × BurstRecord)}
    (fresh : ch ∉ chs) (first : s.LosesSync t [ch] rs) (rest : t.LosesSync u chs qs) :
    s.LosesSync u (ch :: chs) (rs ++ qs) := by
  have other {k : Fin 6} (mem : k ∈ chs) : k ≠ ch := by rintro rfl; exact fresh mem
  have spared {k : Fin 6} (ne : k ≠ ch) := first.spared k (.inl (by simpa using ne))
  have chan {k : Fin 6} (ne : k ≠ ch) : t.chan k = s.chan k := (spared ne).1
  have lanes {k : Fin 6} (mem : k ∈ chs) : t.lostLanes k = s.lostLanes k := by
    have serves : t.lanesOf k = s.lanesOf k := List.filter_congr fun l _ => first.serves (other mem) l
    rw [State.lostLanes, State.lostLanes, chan (other mem), serves]
  have counter : t.counter = s.counter := congrArg Timebase.counter first.frame.timebase
  have disposition (k : Fin 6) : (t.chan k).disposition = (s.chan k).disposition := by rw [first.frame.chan k]
  refine ⟨?_, fun k mem active => ?_, fun k quiet => ?_, fun l free => rest.free l (first.free l free),
    first.frame.trans rest.frame⟩
  · have listed : chs.flatMap t.lostLanes = chs.flatMap s.lostLanes := by
      rw [List.flatMap, List.flatMap, List.map_congr_left fun k mem => lanes mem]
    have joined := (by simpa using first.hand : s.AbortsHand .syncLost (s.lostLanes ch) t.output rs).append
      (listed ▸ rest.hand) (fun l mem => ?_) counter
    · exact joined
    · obtain ⟨k, mem, lost⟩ := List.mem_flatMap.1 mem
      have serves : s.serves l k = true := by
        unfold State.lostLanes at lost
        split at lost
        · exact State.mem_lanesOf.1 lost
        · cases lost
      have same := (spared (other mem)).2 l serves
      exact ⟨(State.emitsAtAbort_congr same (disposition _)).symm, fun _ r h => h.congr same (disposition _) counter⟩
  · rcases List.mem_cons.1 mem with rfl | mem
    · obtain ⟨own, freed⟩ := first.halted _ List.mem_cons_self active
      refine ⟨(rest.spared _ (.inl fresh)).1.trans own, fun l serves => rest.free l (freed l serves)⟩
    · obtain ⟨own, freed⟩ := rest.halted k mem (by rw [chan (other mem)]; exact active)
      rw [chan (other mem)] at own
      exact ⟨own, fun l serves => freed l (by rw [first.serves (other mem)]; exact serves)⟩
  · have apart : k ∉ [ch] ∨ (s.chan k).state.active = false := by
      rcases quiet with out | quiet
      · exact .inl (by simpa using fun e : k = ch => out (e ▸ List.mem_cons_self))
      · exact .inr quiet
    obtain ⟨own, same⟩ := first.spared k apart
    have later : k ∉ chs ∨ (t.chan k).state.active = false := by
      rcases quiet with out | quiet
      · exact .inl fun mem => out (List.mem_cons_of_mem _ mem)
      · exact .inr (by rw [own]; exact quiet)
    obtain ⟨own', same'⟩ := rest.spared k later
    refine ⟨own'.trans own, fun l serves => (same' l ?_).trans (same l serves)⟩
    obtain ⟨busy, channel⟩ := State.serves_iff.1 serves
    rw [State.serves_iff, (same l serves).state, (same l serves).channel]
    exact ⟨busy, channel⟩

theorem haltIfActive_foldl_losesSync : ∀ (chs : List (Fin 6)) (s : State), chs.Nodup →
    ∃ rs, s.LosesSync (chs.foldl State.haltIfActive s) chs rs
  | [], s, _ => ⟨[], .nil s _, fun _ mem => absurd mem List.not_mem_nil, fun _ _ => ⟨rfl, fun _ _ => .refl _⟩,
      fun _ free => free, Frame.rfl s⟩
  | ch :: chs, s, distinct => by
    obtain ⟨fresh, distinct⟩ := List.nodup_cons.1 distinct
    obtain ⟨rs, first⟩ := s.haltIfActive_losesSync ch
    obtain ⟨qs, rest⟩ := haltIfActive_foldl_losesSync chs (s.haltIfActive ch) distinct
    exact ⟨rs ++ qs, first.append fresh rest⟩

theorem channelIds_eq : channelIds = List.finRange 6 := by decide

/-- The lanes that the loss of sync makes hand over a record, channel by channel (R10, R77). -/
theorem State.lostLanes_emitting (s : State) (chs : List (Fin 6)) : (chs.flatMap s.lostLanes).filter s.emitsAtAbort =
    chs.flatMap fun ch => (List.finRange 12).filter fun l =>
      ((s.chan ch).state == .running || (s.chan ch).state == .stopping) && s.serves l ch &&
        (s.lane l).abortEmits (s.chan ch).disposition := by
  rw [List.filter_flatMap]
  refine congrArg (chs.flatMap ·) (funext fun ch => ?_)
  unfold State.lostLanes
  have active : (s.chan ch).state.active = ((s.chan ch).state == .running || (s.chan ch).state == .stopping) := by
    cases (s.chan ch).state <;> rfl
  split
  · rename_i on
    rw [← active, on, State.lanesOf_emitting]
    rfl
  · rename_i off
    rw [Bool.not_eq_true] at off
    rw [← active, off]
    simp

/-- Notices and records only join the output (R177). -/
theorem OutputQueue.placeAborted_items (counter : Tick) (rs : List (Fin 12 × BurstRecord)) (o : OutputQueue) :
    o.items <+: (o.placeAll counter (rs.map fun a => .aborted a.1 a.2)).items := by
  induction rs generalizing o with
  | nil => exact List.prefix_rfl
  | cons a rs ih =>
    rw [List.map_cons, OutputQueue.placeAll_aborted]
    refine List.IsPrefix.trans ?_ (ih _)
    rcases o.placeRecord_items a.2 with same | ⟨x, joined⟩
    · rw [same]
    · rw [joined]; exact List.prefix_append _ _

/-- Settles O18: the notice first, then the halts, channel by channel. -/
theorem holdoverLimitHaltsActiveChannels : Obligations.HoldoverLimitHaltsActiveChannels := by
  unfold Obligations.HoldoverLimitHaltsActiveChannels
  intro s running holdover due
  have expired : s.holdoverOver = true := by
    simp only [State.holdoverOver, holdover, beq_self_eq_true, Bool.true_and]
    exact due
  rw [exec_holdoverLimitExpiry running, if_pos expired, State.loseSync_eq, channelIds_eq]
  obtain ⟨rs, lost⟩ := haltIfActive_foldl_losesSync (List.finRange 6)
    ((s.setSync .unsynced).notify (.syncLost s.timebase.holdoverStart)) (List.nodup_finRange 6)
  have output : ((s.setSync .unsynced).notify (.syncLost s.timebase.holdoverStart)).output =
      s.output.placeNotice s.timebase.counter (.syncLost s.timebase.holdoverStart) := State.setOutput_output _ _
  have hand := lost.hand.output
  rw [output] at hand
  refine ⟨_, rs, rfl, lost.frame.timebase, ?_, fun a mem => ?_, hand, ?_, fun ch active => ?_, fun ch quiet => ?_,
    lost.frame.patterns, lost.frame.directory, lost.frame.sweep, lost.frame.link, lost.frame.resetHeld⟩
  · exact lost.hand.lanes.trans (State.lostLanes_emitting _ _)
  · obtain ⟨yields, fixed⟩ := lost.hand.handed a mem
    exact ⟨yields, fixed⟩
  · rw [hand]
    exact OutputQueue.placeAborted_items _ _ _
  · refine lost.halted ch (List.mem_finRange ch) ?_
    show (s.chan ch).state.active = true
    rcases active with h | h <;> rw [h] <;> rfl
  · have inactive : (s.chan ch).state.active = false := by rcases quiet with h | h <;> rw [h] <;> rfl
    obtain ⟨own, same⟩ := lost.spared ch (.inr inactive)
    refine ⟨own, fun l serves => ?_⟩
    obtain ⟨state, grant, channel, -⟩ := (same l serves).service
    exact ⟨state, grant, channel.trans (State.serves_iff.1 serves).2⟩

end Sys2Proof.Machine
end

section
/-! The burst of a lane that is not FREE: what judgements, checkouts and armings of other lanes leave of it. -/

namespace Sys2Proof.Machine

variable {s t : State}

/-! ### Reports (R71, R76, R174) -/

theorem BurstRecord.SameBurst.trans {r a b : BurstRecord} (h : r.SameBurst a) (k : a.SameBurst b) : r.SameBurst b :=
  ⟨h.channel.trans k.channel, h.cls.trans k.cls, h.modulation.trans k.modulation, h.outcome.trans k.outcome,
    h.cause.trans k.cause, h.station.trans k.station, h.start.trans k.start, h.lane.trans k.lane,
    h.measurement.trans k.measurement, h.sums.trans k.sums, h.symbols.trans k.symbols, h.linked.trans k.linked⟩

/-- Two standings of a lane report the same burst: they differ in what a checkout or a judgement writes alone. -/
structure Lane.SameReport (y x : Lane) : Prop where
  service : y.SameService x
  record : Option.Rel BurstRecord.SameBurst y.record x.record
  member : y.member = x.member
  symbols : y.symbols = x.symbols
  saturated : y.saturated = x.saturated
  holdoverMark : y.holdoverMark = x.holdoverMark

theorem sameBurst_refl : ∀ r : Option BurstRecord, Option.Rel BurstRecord.SameBurst r r
  | none => .none
  | some r => .some (.refl r)

theorem sameBurst_trans {a b c : Option BurstRecord} (h : Option.Rel BurstRecord.SameBurst a b)
    (k : Option.Rel BurstRecord.SameBurst b c) : Option.Rel BurstRecord.SameBurst a c := by
  cases h with
  | none => exact k
  | some h =>
    cases k with
    | some k => exact .some (h.trans k)

theorem sameBurst_map {f : BurstRecord → BurstRecord} (same : ∀ r, (f r).SameBurst r) :
    ∀ r : Option BurstRecord, Option.Rel BurstRecord.SameBurst (r.map f) r
  | none => .none
  | some r => .some (same r)

theorem Lane.SameHandover.report {x y : Lane} (h : y.SameHandover x) : y.SameReport x :=
  ⟨h.service, h.record ▸ sameBurst_refl _, h.member, h.symbols, h.saturated, h.holdoverMark⟩

theorem Lane.SameReport.refl (x : Lane) : x.SameReport x := (Lane.SameHandover.refl x).report

theorem Lane.SameReport.trans {x y z : Lane} (h : z.SameReport y) (k : y.SameReport x) : z.SameReport x :=
  ⟨h.service.trans k.service, sameBurst_trans h.record k.record, h.member.trans k.member, h.symbols.trans k.symbols,
    h.saturated.trans k.saturated, h.holdoverMark.trans k.holdoverMark⟩

theorem State.setLane_report {l : Fin 12} {x : Lane} (same : x.SameReport (s.lane l)) (k : Fin 12) :
    ((s.setLane l x).lane k).SameReport (s.lane k) := by
  rw [State.setLane_lane]
  split
  · rename_i e; exact e ▸ same
  · exact .refl _

theorem State.setLane_report_other {l k : Fin 12} (x : Lane) (ne : k ≠ l) :
    ((s.setLane l x).lane k).SameReport (s.lane k) := by
  rw [State.setLane_lane, if_neg ne.symm]; exact .refl _

/-! ### Judgements and checkouts -/

theorem State.judgeEffect_report (s : State) (l : Fin 12) (p : Fin 384) (b : Bool) (k : Fin 12) :
    ((s.judgeEffect l p b).lane k).SameReport (s.lane k) := by
  have judged {f : BurstRecord → BurstRecord} (same : ∀ r, (f r).SameBurst r) (forwarded overridden : Bool) :
      Lane.SameReport ({ s.lane l with forwarded := forwarded, overridden := overridden }.mapRecord f) (s.lane l) :=
    ⟨⟨rfl, rfl, rfl, rfl, rfl⟩, sameBurst_map same _, rfl, rfl, rfl, rfl⟩
  have gate (r : BurstRecord) (g : Option GateResult) : BurstRecord.SameBurst { r with gate := g } r :=
    ⟨rfl, rfl, rfl, rfl, rfl, rfl, rfl, rfl, rfl, rfl, rfl, rfl⟩
  have passed (r : BurstRecord) (c : Recentre) (v : CoefVector) : (r.passed c v).SameBurst r :=
    ⟨rfl, rfl, rfl, rfl, rfl, rfl, rfl, rfl, rfl, rfl, rfl, rfl⟩
  unfold State.judgeEffect
  dsimp only
  split
  · exact State.setLane_report (judged (fun r => gate r _) _ _) k
  · split
    · exact State.setLane_report (judged (fun r => passed r _ _) _ _) k
    · split
      · exact State.setLane_report (judged (fun r => gate r _) _ _) k
      · exact State.setLane_report (judged (fun r => gate r _) _ _) k

theorem State.judge_report (s : State) (l : Fin 12) (p : Fin 384) (b : Bool) (k : Fin 12) :
    ((s.judge l p b).lane k).SameReport (s.lane k) := by
  have role (u : State) : ((u.setLane l { u.lane l with role := .none }).lane k).SameReport (u.lane k) :=
    State.setLane_report (s := u) (x := { u.lane l with role := .none }) (Lane.SameReport.mk ⟨rfl, rfl, rfl, rfl, rfl⟩ (sameBurst_refl _) rfl rfl rfl rfl) k
  exact ((State.releaseHolder_handover _ p k).report.trans (role _)).trans (s.judgeEffect_report l p b k)

theorem Lane.asGuest_handover (x : Lane) (i : Fin 384) (q : Profile) : (x.asGuest i q).SameHandover x := by
  unfold Lane.asGuest
  rw [Lane.withPreload_eq]
  exact ⟨⟨rfl, rfl, rfl, rfl, rfl⟩, rfl, rfl, rfl, rfl, rfl, rfl, rfl⟩

theorem State.checkoutCandidate_report (s : State) (l : Fin 12) (p : Fin 384) (k : Fin 12) :
    ((s.checkoutCandidate l p).lane k).SameReport (s.lane k) := by
  unfold State.checkoutCandidate
  split
  · exact (s.becomeHolder_handover l p k).report
  · split
    · exact (State.becomeHolder_handover _ l p k).report.trans (s.judge_report _ p true k)
    · split
      · exact State.setLane_report (x := { s.lane l with role := .claim p, vec := defaultVector, bias := 0 })
          (Lane.SameReport.mk ⟨rfl, rfl, rfl, rfl, rfl⟩ (sameBurst_refl _) rfl rfl rfl rfl) k
      · exact State.setLane_report (Lane.asGuest_handover _ _ _).report k

theorem State.checkout_report (s : State) (l k : Fin 12) : ((s.checkout l).lane k).SameReport (s.lane k) := by
  unfold State.checkout
  dsimp only
  split
  · exact State.setLane_report (Lane.asColdGuest_handover _ _).report k
  · split
    · exact State.setLane_report (x := { (s.lane l).asColdGuest none with unbound := true })
        (Lane.SameReport.mk ⟨rfl, rfl, rfl, rfl, rfl⟩ (sameBurst_refl _) rfl rfl rfl rfl) k
    · split
      · split
        · exact State.setLane_report (Lane.asColdGuest_handover _ _).report k
        · exact State.setLane_report (Lane.asGuest_handover _ _ _).report k
      · exact s.checkoutCandidate_report l _ k

/-! ### Armings (R46, R48, R51) -/

theorem State.freeLane_free {pool : List (Fin 12)} {l : Fin 12} (found : s.freeLane pool = some l) :
    (s.lane l).state = .free := by
  simpa using List.find?_some found

/-- A lane that is not FREE keeps its burst through what armings make. -/
def State.KeepsBursts (s t : State) : Prop := ∀ k, (s.lane k).state ≠ .free → (t.lane k).SameReport (s.lane k)

theorem State.KeepsBursts.refl (s : State) : s.KeepsBursts s := fun _ _ => .refl _

theorem State.KeepsBursts.trans {u : State} (h : s.KeepsBursts t) (k : t.KeepsBursts u) : s.KeepsBursts u := fun l busy =>
  (k l (by rw [(h l busy).service.1]; exact busy)).trans (h l busy)

theorem State.leaveWithoutLane_lane (s : State) (ch : Fin 6) (g : QueuedGrant) (o : BurstOutcome) (k : Fin 12) :
    (s.leaveWithoutLane ch g o).lane k = s.lane k := by
  unfold State.leaveWithoutLane
  dsimp only
  split
  · rw [State.setQueue_lane, State.emitRecord_lane]
  · exact State.emitRecord_lane _ _ _

theorem State.armGrant_keepsBursts (s : State) (pool : List (Fin 12)) (ch : Fin 6) (g : QueuedGrant) :
    s.KeepsBursts (s.armGrant pool ch g).1 := by
  intro k busy
  unfold State.armGrant
  dsimp only
  split
  · rw [State.leaveWithoutLane_lane]; exact .refl _
  · split
    · rw [State.leaveWithoutLane_lane]; exact .refl _
    · split
      · rw [State.leaveWithoutLane_lane]; exact .refl _
      · rename_i l found
        have ne : k ≠ l := by rintro rfl; exact busy (State.freeLane_free found)
        exact (State.checkout_report _ l k).trans (State.setLane_report_other _ ne)

theorem State.armHead_keepsBursts (s : State) (pool : List (Fin 12)) (ch : Fin 6) :
    s.KeepsBursts (s.armHead pool ch).1 := by
  unfold State.armHead
  split
  · exact .refl s
  · exact State.armGrant_keepsBursts (s.setQueue ch _) pool ch _

theorem armRun_keepsBursts (pool : List (Fin 12)) (ch : Fin 6) : ∀ (n : Nat) (s : State), s.KeepsBursts (armRun pool ch n s)
  | 0, s => .refl s
  | n + 1, s => by
    unfold armRun
    split
    · exact (s.armHead_keepsBursts pool ch).trans (armRun_keepsBursts pool ch n _)
    · exact .refl s

theorem brokenRun_keepsBursts (ch : Fin 6) : ∀ (n : Nat) (r : State × Bool), r.1.KeepsBursts (brokenRun ch n r)
  | 0, r => .refl r.1
  | n + 1, r => by
    unfold brokenRun
    split
    · exact (r.1.armHead_keepsBursts laneIds ch).trans (brokenRun_keepsBursts ch n _)
    · exact .refl r.1

theorem State.runQueue_keepsBursts (s : State) (pool : List (Fin 12)) (ch : Fin 6) : s.KeepsBursts (s.runQueue pool ch) :=
  armRun_keepsBursts pool ch _ s

theorem State.fallback_keepsBursts (s : State) (ch : Fin 6) (b : Bool) : s.KeepsBursts (s.fallback ch b) := by
  have first := (s.armHead_keepsBursts laneIds ch).trans
    (brokenRun_keepsBursts ch (s.queue ch).length (s.armHead laneIds ch))
  unfold State.fallback
  dsimp only
  split
  · exact first
  · exact first.trans (State.runQueue_keepsBursts _ laneIds ch)

end Sys2Proof.Machine
end

section
/-! The entry to CLOSING, the end event, the search end and the close completion (chapter 4). -/

namespace Sys2Proof.Machine

variable {s t : State}

/-! ### The entry to CLOSING (R71) -/

/-- A lane that has entered CLOSING, before a judgement for a waiting claim (R71). -/
def Lane.closed (x : Lane) (l : Fin 12) (o : BurstOutcome) : Lane :=
  { x with state := .closing, closeCount := 0, record := some (x.closingRecord l o), lowCount := 0, lowStart := 0 }

theorem State.enterClosing_eq (s : State) (l : Fin 12) (o : BurstOutcome) :
    s.enterClosing l o = match (s.lane l).role with
      | .holder p => if (s.prof p).claim.isSome then (s.setLane l ((s.lane l).closed l o)).judge l p true
        else s.setLane l ((s.lane l).closed l o)
      | .none | .claim _ | .guest _ | .coldGuest _ => s.setLane l ((s.lane l).closed l o) := by
  unfold State.enterClosing
  rfl

theorem State.enterClosing_unclaimed {l : Fin 12} (o : BurstOutcome)
    (unclaimed : ∀ p, (s.lane l).role = .holder p → (s.prof p).claim = none) :
    s.enterClosing l o = s.setLane l ((s.lane l).closed l o) := by
  rw [State.enterClosing_eq]
  cases role : (s.lane l).role with
  | holder p => dsimp only; rw [unclaimed p role]; rfl
  | none | claim p | guest p | coldGuest p => rfl

theorem State.enterClosing_claimed {l : Fin 12} {p : Fin 384} (o : BurstOutcome) (role : (s.lane l).role = .holder p)
    (claimed : (s.prof p).claim ≠ none) :
    s.enterClosing l o = (s.setLane l ((s.lane l).closed l o)).judge l p true := by
  rw [State.enterClosing_eq, role]
  exact if_pos (Option.isSome_iff_ne_none.2 claimed)

/-- The entry to CLOSING judges for a waiting claim, and no more. -/
theorem State.enterClosing_cases (s : State) (l : Fin 12) (o : BurstOutcome) :
    s.enterClosing l o = s.setLane l ((s.lane l).closed l o) ∨
      ∃ p, s.enterClosing l o = (s.setLane l ((s.lane l).closed l o)).judge l p true := by
  by_cases claimed : ∃ p, (s.lane l).role = .holder p ∧ (s.prof p).claim ≠ none
  · obtain ⟨p, role, claimed⟩ := claimed
    exact .inr ⟨p, State.enterClosing_claimed o role claimed⟩
  · refine .inl (State.enterClosing_unclaimed o fun p role => ?_)
    by_contra claim
    exact claimed ⟨p, role, claim⟩

theorem State.enterClosing_queue (s : State) (l : Fin 12) (o : BurstOutcome) (ch : Fin 6) :
    (s.enterClosing l o).queue ch = s.queue ch := by
  rcases s.enterClosing_cases l o with e | ⟨p, e⟩ <;> rw [e]
  · exact State.setLane_queue _ _ _ _
  · exact (State.judge_work _ _ _ _).judging_queue ch

theorem State.enterClosing_lane (s : State) (l : Fin 12) (o : BurstOutcome) :
    ((s.enterClosing l o).lane l).SameReport ((s.lane l).closed l o) := by
  have own : ((s.setLane l ((s.lane l).closed l o)).lane l) = (s.lane l).closed l o := by
    rw [State.setLane_lane, if_pos rfl]
  rcases s.enterClosing_cases l o with e | ⟨p, e⟩
  · rw [e, own]; exact .refl _
  · have judged := (s.setLane l ((s.lane l).closed l o)).judge_report l p true l
    rwa [← e, own] at judged

/-! ### A burst that ends early (R51, R63, R70) -/

theorem State.endEarly_alone {l : Fin 12} (o : BurstOutcome) (alone : s.headFollows l = false) :
    s.endEarly l o = s.enterClosing l o := by
  unfold State.endEarly
  rw [alone]; rfl

theorem State.endEarly_follows {l : Fin 12} (o : BurstOutcome) (follows : s.headFollows l = true) :
    s.endEarly l o = (s.enterClosing l o).fallback (s.lane l).channel false := by
  unfold State.endEarly
  rw [follows]; rfl

theorem State.endEarly_fallsBack {l : Fin 12} (o : BurstOutcome) {g : QueuedGrant} {rest : List QueuedGrant}
    (follows : s.headFollows l = true) (waits : s.queue (s.lane l).channel = g :: rest)
    (early : ∀ h ∈ rest.head?, h.armReached = false) :
    (s.enterClosing l o).FallsBack (s.endEarly l o) (s.lane l).channel g rest := by
  rw [State.endEarly_follows o follows]
  exact State.fallback_fallsBack ((s.enterClosing_queue l o _).trans waits) early

/-! ### The end event (R67, R68) -/

theorem exec_endEvent {l : Fin 12} (running : s.resetHeld = false) (tracking : (s.lane l).state = .tracking)
    (reached : (s.lane l).endReached = true) : exec (.endEvent l) s = .next (s.endOfGrant l) := by
  show execEndEvent l s = _
  rw [execEndEvent, State.unlessReset_running _ _ running, if_pos ⟨tracking, reached⟩]

theorem State.endOfGrant_alone {l : Fin 12} (alone : s.headFollows l = false) :
    s.endOfGrant l = s.enterClosing l .complete := by
  unfold State.endOfGrant
  dsimp only
  rw [alone, if_neg Bool.false_ne_true, endGrants, alone, if_neg Bool.false_ne_true]

/-- Settles O48: no head is linked, so the lane closes. -/
theorem endEventClosesTheLane : Obligations.EndEventClosesTheLane := by
  unfold Obligations.EndEventClosesTheLane
  rintro s l _ running rfl tracking reached alone
  rw [exec_endEvent running tracking reached, State.endOfGrant_alone alone]
  exact ⟨_, _, rfl, fun unclaimed => congrArg _ (State.enterClosing_unclaimed _ unclaimed),
    fun p role claimed => congrArg _ (State.enterClosing_claimed _ role claimed),
    rfl, rfl, rfl, rfl, rfl, rfl, rfl, rfl, rfl, rfl, rfl, rfl, rfl, rfl⟩

/-- A continuation (R67): the ended grant's record, and the head in the lane. -/
theorem State.continueLane_of_waits {l : Fin 12} {g : QueuedGrant} {rest : List QueuedGrant}
    (waits : s.queue (s.lane l).channel = g :: rest) :
    s.continueLane l = ((s.emitLane l ((s.lane l).linkedRecord l)).setQueue (s.lane l).channel rest).setLane l
      ((s.lane l).continueInto g ((s.chan (s.lane l).channel).classes[g.grant.cls]) (s.chan (s.lane l).channel).spm.spm
        (s.timebase.sync == .holdover) (s.reached g.endTick)) := by
  unfold State.continueLane
  dsimp only
  rw [waits]
  dsimp only
  generalize placed : s.emitLane l ((s.lane l).linkedRecord l) = u
  have chan : (u.setQueue (s.lane l).channel rest).chan (s.lane l).channel =
      { s.chan (s.lane l).channel with queue := rest } := by
    rw [State.setQueue_chan, if_pos rfl, ← placed, State.emitLane, State.emitRecord_chan]
  have timebase : (u.setQueue (s.lane l).channel rest).timebase = s.timebase := by
    rw [State.setQueue_timebase, ← placed, State.emitLane, State.emitRecord_timebase]
  simp only [State.classOf, State.reached, State.counter, chan, timebase]

/-- A continuation whose new grant has not ended, and behind which no head is due (R67). -/
theorem State.endOfGrant_continues {l : Fin 12} {g : QueuedGrant} {rest : List QueuedGrant}
    (waits : s.queue (s.lane l).channel = g :: rest) (follows : s.headFollows l = true)
    (ahead : s.reached g.endTick = false) (early : ∀ h ∈ rest.head?, h.armReached = false) :
    s.endOfGrant l = ((s.emitLane l ((s.lane l).linkedRecord l)).setQueue (s.lane l).channel rest).setLane l
      ((s.lane l).continueInto g ((s.chan (s.lane l).channel).classes[g.grant.cls]) (s.chan (s.lane l).channel).spm.spm
        (s.timebase.sync == .holdover) false) := by
  have continued := State.continueLane_of_waits waits
  have own : s.continueLane l = ((s.emitLane l ((s.lane l).linkedRecord l)).setQueue (s.lane l).channel rest).setLane l
      ((s.lane l).continueInto g ((s.chan (s.lane l).channel).classes[g.grant.cls]) (s.chan (s.lane l).channel).spm.spm
        (s.timebase.sync == .holdover) false) := by rw [continued, ahead]
  clear continued
  unfold State.endOfGrant
  dsimp only
  rw [if_pos follows, endGrants, if_pos follows]
  dsimp only
  rw [own, State.setLane_lane, if_pos rfl, Lane.continueInto, if_neg Bool.false_ne_true]
  refine armRun_of_not_due (State.headDue_of_not_reached (q := rest) ?_ early)
  rw [State.setLane_queue, State.setQueue_queue, if_pos rfl]

/-- Settles O49: the head continues in the lane, and none behind it is due. -/
theorem endEventContinuesAChain : Obligations.EndEventContinuesAChain := by
  unfold Obligations.EndEventContinuesAChain
  rintro s l _ g rest running rfl tracking reached waits link chain station joins ahead early
  have follows : s.headFollows l = true := by
    simp [State.headFollows, waits, Lane.precedes, tracking, LaneState.receiving, link, chain, station, joins]
  rw [exec_endEvent running tracking reached, State.endOfGrant_continues waits follows ahead early]
  refine ⟨_, s.handover l ((s.lane l).linkedRecord l), rfl, ?_, fun k ne => ?_, ?_,
    rfl, rfl, rfl, rfl, rfl, rfl, rfl, rfl, rfl, rfl, rfl⟩
  · rw [State.emitLane_eq]
    generalize s.output.placeRecord (s.handover l ((s.lane l).linkedRecord l)) = o
    rfl
  · rw [State.setLane_lane, if_neg ne.symm, State.setQueue_lane, State.emitLane_lane]
  · rw [State.setLane_lane, if_pos rfl]; rfl

/-! ### The search end (R63, R64) -/

theorem exec_searchEnd {l : Fin 12} (running : s.resetHeld = false) (searching : (s.lane l).state = .searching)
    (reached : (s.lane l).searchReached = true) : exec (.searchEnd l) s = .next (s.endSearch l) := by
  show execSearchEnd l s = _
  rw [execSearchEnd, State.unlessReset_running _ _ running, if_pos ⟨searching, reached⟩]

/-- The catch-up acts on every buffered position in order (R64). -/
theorem catchUp_eq_foldl (l : Fin 12) : ∀ (n : Nat) (pos : Int) (s : State),
    catchUp l n pos s = ((List.range n).map fun i : Nat => pos + (i : Int)).foldl (fun v p => v.positionArrival l p) s
  | 0, _, _ => rfl
  | n + 1, pos, s => by
    rw [catchUp, catchUp_eq_foldl l n, List.range_succ_eq_map, List.map_cons, List.foldl_cons, List.map_map]
    have shifted : (fun i : Nat => pos + 1 + (i : Int)) = (fun i : Nat => pos + (i : Int)) ∘ Nat.succ := by
      funext i; simp only [Function.comp, Nat.succ_eq_add_one]; push_cast; ring
    rw [shifted]
    simp

/-- A detected burst stands in the lane: its measurement, and TRAINING or a later state (R64, R88). -/
def State.Detected (s : State) (l : Fin 12) (m : Option Measurement) : Prop :=
  (s.lane l).measurement = m ∧
    ((s.lane l).state = .training ∨ (s.lane l).state = .tracking ∨ (s.lane l).state = .closing)

section Detected

variable {l : Fin 12} {m : Option Measurement}

theorem State.Detected.busy (h : s.Detected l m) : (s.lane l).state ≠ .free := by
  obtain ⟨-, e | e | e⟩ := h <;> rw [e] <;> nofun

theorem State.Detected.keeps (h : s.Detected l m) (same : s.KeepsBursts t) : t.Detected l m := by
  obtain ⟨state, -, -, measurement, -⟩ := (same l h.busy).service
  rw [State.Detected, state, measurement]
  exact h

theorem State.Detected.setLane {x : Lane} (measurement : x.measurement = m)
    (state : x.state = .training ∨ x.state = .tracking ∨ x.state = .closing) : (s.setLane l x).Detected l m := by
  rw [State.Detected, State.setLane_lane, if_pos rfl]
  exact ⟨measurement, state⟩

theorem State.Detected.enterClosing (h : s.Detected l m) (o : BurstOutcome) : (s.enterClosing l o).Detected l m := by
  obtain ⟨state, -, -, measurement, -⟩ := (s.enterClosing_lane l o).service
  exact ⟨measurement.trans h.1, .inr (.inr state)⟩

theorem State.Detected.continueLane (h : s.Detected l m) : (s.continueLane l).Detected l m := by
  unfold State.continueLane
  dsimp only
  split
  · exact h
  · exact State.Detected.setLane h.1 h.2

theorem endGrants_detected : ∀ (n : Nat) (s : State), s.Detected l m → (endGrants l n s).Detected l m
  | 0, _, h => h
  | n + 1, s, h => by
    unfold endGrants
    dsimp only
    split
    · split
      · exact endGrants_detected n _ h.continueLane
      · exact h.continueLane
    · exact h.enterClosing _

theorem State.Detected.endOfGrant (h : s.Detected l m) : (s.endOfGrant l).Detected l m := by
  unfold State.endOfGrant
  dsimp only
  split
  · exact (endGrants_detected _ s h).keeps (State.runQueue_keepsBursts _ laneIds _)
  · exact endGrants_detected _ s h

theorem State.Detected.endEarly (h : s.Detected l m) (o : BurstOutcome) : (s.endEarly l o).Detected l m := by
  unfold State.endEarly
  dsimp only
  split
  · exact (h.enterClosing o).keeps (State.fallback_keepsBursts _ _ false)
  · exact h.enterClosing o

theorem State.Detected.symbolArrival (h : s.Detected l m) (pos : Int) : (s.symbolArrival l pos).Detected l m := by
  unfold State.symbolArrival
  dsimp only
  split
  · rename_i due
    obtain ⟨state, -, measurement, -⟩ := (s.lane l).processNext_fields (s.chan (s.lane l).channel).spm.spm due.1
    have processed := State.Detected.setLane (s := s) (l := l) (measurement.trans h.1)
      (state.elim .inl fun e => .inr (.inl e))
    split
    · exact processed.endOfGrant
    · exact processed
  · exact h

theorem State.Detected.blockArrival (h : s.Detected l m) (pos : Int) : (s.blockArrival l pos).Detected l m := by
  unfold State.blockArrival
  dsimp only
  split
  · split
    · exact h
    · rename_i j _
      obtain ⟨state, -, measurement, -⟩ := (s.lane l).watchBlock_fields j
      generalize (s.lane l).watchBlock j = y at state measurement
      obtain ⟨stateLeft, -, measurementLeft, -⟩ := y.removeLate_fields
      generalize y.removeLate = z at stateLeft measurementLeft
      by_cases low : y.lowCount ≥ 2
      · rw [if_pos low, if_pos low]
        exact (State.Detected.setLane (measurementLeft.trans (measurement.trans h.1))
          (by rw [stateLeft, state]; exact h.2)).endEarly _
      · rw [if_neg low, if_neg low]
        exact State.Detected.setLane (measurement.trans h.1) (by rw [state]; exact h.2)
  · exact h

theorem State.Detected.positions (ps : List Int) : ∀ {s : State}, s.Detected l m →
    (ps.foldl (fun v pos => v.positionArrival l pos) s).Detected l m := by
  induction ps with
  | nil => exact id
  | cons p ps ih => exact fun h => ih ((h.symbolArrival p).blockArrival p)

end Detected

/-- The lanes of a channel that one lane alone serves. -/
theorem State.lanesOf_single {ch : Fin 6} {l : Fin 12} (alone : ∀ k, s.serves k ch = decide (k = l)) :
    s.lanesOf ch = [l] := by
  simp only [State.lanesOf, alone]
  clear alone
  revert l
  decide

/-- A sample in the one lane of its channel, in TRAINING or TRACKING (R60). -/
theorem exec_sampleArrival_single {ch : Fin 6} {re im : BitVec 12} {l : Fin 12} (running : s.resetHeld = false)
    (alone : ∀ k, s.serves k ch = decide (k = l)) (receives : (s.lane l).state = .training ∨ (s.lane l).state = .tracking) :
    exec (.sampleArrival ch re im) s = .next (State.positionArrival
      (s.setLane l { s.lane l with buffer := (s.lane l).buffer ++ [⟨re, im⟩] }) l
      ((s.lane l).firstPos + ((s.lane l).buffer.length : Int))) := by
  show execSampleArrival ch re im s = _
  rw [execSampleArrival, State.unlessReset_running _ _ running, State.lanesOf_single alone, List.foldl_cons,
    List.foldl_nil]
  unfold State.laneSample
  rcases receives with e | e <;> simp only [e]

/-- Settles O45: the catch-up of a detected burst, the close of an undetected one, and the arrival of one sample. -/
theorem searchEndDecidesDetection : Obligations.SearchEndDecidesDetection := by
  unfold Obligations.SearchEndDecidesDetection
  refine ⟨?_, ?_⟩
  · rintro s l _ running rfl searching reached
    rw [exec_searchEnd running searching reached]
    refine ⟨fun detects => ?_, fun misses => ?_⟩
    · have found : s.endSearch l = catchUp l (s.lane l).buffer.length (s.lane l).firstPos
          (s.setLane l { s.lane l with state := .training, measurement := some (s.lane l).measured, nextPos := 0 }) := by
        rw [State.endSearch, if_pos detects]
      rw [found, catchUp_eq_foldl]
      have detected := State.Detected.positions (s := s.setLane l { s.lane l with
        state := .training, measurement := some (s.lane l).measured, nextPos := 0 }) (l := l)
        (m := some (s.lane l).measured)
        ((List.range (s.lane l).buffer.length).map fun i : Nat => (s.lane l).firstPos + (i : Int))
        (State.Detected.setLane rfl (.inl rfl))
      exact ⟨_, rfl, rfl, detected.1, detected.2⟩
    · have missed : s.endSearch l = s.endEarly l .noPreamble := by
        rw [State.endSearch, if_neg (by simp [misses])]
      rw [missed]
      refine ⟨_, s.enterClosing l .noPreamble, _, rfl, fun unclaimed => State.enterClosing_unclaimed _ unclaimed,
        fun p role claimed => State.enterClosing_claimed _ role claimed,
        fun alone => congrArg _ (State.endEarly_alone _ alone),
        fun g rest follows waits early => ⟨_, rfl, State.endEarly_fallsBack _ follows waits early⟩,
        rfl, rfl, rfl, rfl, rfl, rfl, rfl⟩
  · rintro s ch re im l _ running rfl alone receives
    exact exec_sampleArrival_single running alone receives

end Sys2Proof.Machine
end

section
/-! The close completion and the writeback judgement (sections 4.9 and 8.3 to 8.5). -/

namespace Sys2Proof.Machine

variable {s t : State}

/-! ### The close completion (R73) -/

theorem exec_closeCompletion {l : Fin 12} (running : s.resetHeld = false) (closing : (s.lane l).state = .closing)
    (full : (s.lane l).closeCount = 128) : exec (.closeCompletion l) s = .next (s.completeClose l) := by
  show execCloseCompletion l s = _
  rw [execCloseCompletion, State.unlessReset_running _ _ running, if_pos ⟨closing, full⟩]

/-- The record handed over, the lane FREE, the STOPPING test (R73). -/
def State.closeOut (s : State) (l : Fin 12) (r : BurstRecord) : State :=
  ((s.emitLane l r).setLane l Lane.idle).settle (s.lane l).channel

theorem State.completeClose_unheld {l : Fin 12} {r : BurstRecord} (unheld : ∀ p, (s.lane l).role ≠ .holder p)
    (fixed : (s.lane l).record = some r) : s.completeClose l = s.closeOut l r := by
  unfold State.completeClose
  cases role : (s.lane l).role with
  | holder p => exact absurd role (unheld p)
  | none | claim p | guest p | coldGuest p => dsimp only; rw [fixed]; rfl

theorem State.completeClose_held {l : Fin 12} {p : Fin 384} {r : BurstRecord} (held : (s.lane l).role = .holder p)
    (fixed : ((s.judge l p false).lane l).record = some r) : s.completeClose l = (s.judge l p false).closeOut l r := by
  unfold State.completeClose
  dsimp only
  rw [held]
  dsimp only
  rw [fixed]
  rfl

theorem State.emitLane_chan (s : State) (l : Fin 12) (r : BurstRecord) (k : Fin 6) : (s.emitLane l r).chan k = s.chan k :=
  State.emitRecord_chan _ _ _

theorem State.handover_eq (s : State) (l : Fin 12) (r : BurstRecord) : s.handover l r = { r with
    counter := s.timebase.counter
    flags := { r.flags with
      holdover := (s.lane l).holdoverMark, saturated := (s.lane l).saturated, forwarded := (s.lane l).forwarded
      overridden := (s.lane l).overridden } } := rfl

theorem State.closeOut_eq (s : State) (l : Fin 12) (r : BurstRecord) : s.closeOut l r = { s with
    channels := (s.closeOut l r).channels, lanes := s.lanes.set l Lane.idle
    output := s.output.placeRecord (s.handover l r) } := by
  unfold State.closeOut
  rw [State.emitLane_eq, State.settle_eq]
  generalize s.output.placeRecord (s.handover l r) = o
  rfl

theorem State.closeOut_chan_other {l : Fin 12} {k : Fin 6} (r : BurstRecord) (ne : k ≠ (s.lane l).channel) :
    (s.closeOut l r).chan k = s.chan k := by
  unfold State.closeOut
  rw [State.emitLane_eq, State.settle_eq, State.setChan_chan, if_neg ne.symm, State.setLane_chan, State.setOutput_chan]

theorem State.closeOut_chan_own (s : State) (l : Fin 12) (r : BurstRecord) :
    (s.closeOut l r).chan (s.lane l).channel = { s.chan (s.lane l).channel with
      state := if (s.chan (s.lane l).channel).state = .stopping ∧ s.queue (s.lane l).channel = [] ∧
          (∀ k, k ≠ l → s.serves k (s.lane l).channel = false) then .ready
        else (s.chan (s.lane l).channel).state } := by
  have idle : (∀ k, ((s.emitLane l r).setLane l Lane.idle).serves k (s.lane l).channel = false) ↔
      ∀ k, k ≠ l → s.serves k (s.lane l).channel = false := by
    refine forall_congr' fun k => ?_
    by_cases same : k = l
    · subst same
      simp [State.serves_eq_false, Lane.idle]
    · simp [State.serves_eq_false, same, Ne.symm same]
  unfold State.closeOut
  rw [State.settle_eq, State.setChan_chan, if_pos rfl]
  simp only [idle, State.setLane_chan, State.setLane_queue, State.emitLane_chan, State.emitLane_queue]

/-- Settles O50: nothing is judged, the record leaves and the channel settles. -/
theorem closeCompletionFreesTheLane : Obligations.CloseCompletionFreesTheLane := by
  unfold Obligations.CloseCompletionFreesTheLane
  rintro s l _ r running rfl closing full unheld fixed
  rw [exec_closeCompletion running closing full, State.completeClose_unheld unheld fixed]
  have out := s.closeOut_eq l r
  refine ⟨s.closeOut l r, rfl, ?_, ?_, fun k ne => State.closeOut_chan_other r ne, s.closeOut_chan_own l r⟩
  · rw [out]
  · rw [out, State.handover_eq]

/-! ### The release of a holder (R155, R157, R163) -/

theorem State.setProf_setProf (s : State) (p : Fin 384) (x y : Profile) : (s.setProf p x).setProf p y = s.setProf p y := by
  simp [State.setProf, Vector.set_set]

/-- A RETIRING profile without holder and claim is freed, any other stays (R133). -/
theorem State.retireIfReleased_setProf (s : State) (p : Fin 384) (x : Profile) (vacant : x.holder = none)
    (unclaimed : x.claim = none) :
    (s.setProf p x).retireIfReleased p = s.setProf p (if x.state = .retiring then Profile.free else x) := by
  unfold State.retireIfReleased
  rw [State.setProf_prof, if_pos rfl]
  by_cases retiring : x.state = .retiring
  · rw [if_pos ⟨retiring, vacant, unclaimed⟩, if_pos retiring, State.setProf_setProf]
  · rw [if_neg fun h => retiring h.1, if_neg retiring]

theorem State.retireIfReleased_standing {p : Fin 384} (stays : (s.prof p).state ≠ .retiring) : s.retireIfReleased p = s :=
  if_neg fun h => stays h.1

theorem State.releaseHolder_unclaimed {p : Fin 384} (unclaimed : (s.prof p).claim = none) :
    s.releaseHolder p = s.setProf p (if (s.prof p).state = .retiring then Profile.free
      else { s.prof p with holder := none, overridden := false }) := by
  unfold State.releaseHolder State.resolveClaim
  rw [State.setProf_prof, if_pos rfl, unclaimed]
  exact State.retireIfReleased_setProf s p { s.prof p with holder := none, overridden := false } rfl unclaimed

theorem State.releaseHolder_claimed {p : Fin 384} {m : Fin 12} (claimed : (s.prof p).claim = some m)
    (stays : (s.prof p).state ≠ .retiring) :
    s.releaseHolder p = { s with
      lanes := s.lanes.set m { s.lane m with
        role := .holder p
        vec := if (s.lane m).grant.grant.ranging = false ∧ (s.prof p).state = .bound then (s.prof p).current
          else defaultVector
        bias := if (s.lane m).grant.grant.ranging = false ∧ (s.prof p).state = .bound then (s.prof p).bias else 0
        cold := !decide ((s.lane m).grant.grant.ranging = false ∧ (s.prof p).state = .bound) }
      profiles := s.profiles.set p { s.prof p with holder := some m, claim := none, overridden := false } } := by
  unfold State.releaseHolder State.resolveClaim
  rw [State.setProf_prof, if_pos rfl, claimed]
  dsimp only
  rw [State.setProf_setProf, State.setProf_prof, if_pos rfl, if_neg stays, State.retireIfReleased_standing]
  · rw [State.becomeHolder_eq, State.setProf_prof, if_pos rfl, State.setProf_lane]
    simp only [State.setProf, Vector.set_set]
  · rw [State.becomeHolder_prof, if_pos rfl, State.setProf_prof, if_pos rfl]
    exact stays

theorem State.releaseHolder_retiring {p : Fin 384} {m : Fin 12} (claimed : (s.prof p).claim = some m)
    (retiring : (s.prof p).state = .retiring) :
    s.releaseHolder p = (s.setLane m ((s.lane m).asColdGuest (some p))).setProf p Profile.free := by
  unfold State.releaseHolder State.resolveClaim
  rw [State.setProf_prof, if_pos rfl, claimed]
  dsimp only
  rw [State.setProf_setProf, State.setProf_prof, if_pos rfl, if_pos retiring, State.setProf_lane]
  exact (State.retireIfReleased_setProf (s.setLane m ((s.lane m).asColdGuest (some p))) p
    { s.prof p with holder := none, claim := none, overridden := false } rfl rfl).trans (by rw [if_pos retiring])

/-! ### The judgement's effect (R160 to R162) -/

/-- The lane after a judgement, its role still standing (R160 to R162). -/
def Lane.judged (x : Lane) (q : Profile) (forward : Bool) : Lane :=
  if notJudged x q then { x with
    forwarded := x.forwarded || forward
    overridden := x.overridden || (q.state != .retiring && q.overridden)
    record := x.record.map fun r => { r with gate := some .nothing } }
  else if x.cls.gate ≤ x.chain.mer then { x with
    forwarded := x.forwarded || forward
    record := x.record.map fun r => r.passed (recentreOf x.vec x.bias)
      (shiftVector x.vec (recentreOf x.vec x.bias).applied) }
  else { x with
    forwarded := x.forwarded || forward, record := x.record.map fun r => { r with gate := some .fail } }

/-- The profile after a judgement, its holder still standing (R160 to R162). -/
def Profile.judged (q : Profile) (x : Lane) : Profile :=
  if notJudged x q then q
  else if x.cls.gate ≤ x.chain.mer then
    q.passed (shiftVector x.vec (recentreOf x.vec x.bias).applied) x.offsetFound
      (newBias x.bias (recentreOf x.vec x.bias).shift) x.chain.mer
  else q.failed x.chain.mer

/-- The output after a judgement: a notice when the profile reverts (R162). -/
def OutputQueue.judged (o : OutputQueue) (counter : Tick) (x : Lane) (p : Fin 384) (q : Profile) : OutputQueue :=
  if notJudged x q then o
  else if x.cls.gate ≤ x.chain.mer then o
  else if q.failureReverts then o.placeNotice counter (.profileReverted p q.key) else o

theorem State.setLane_setProf_self (s : State) (l : Fin 12) (x : Lane) (p : Fin 384) :
    (s.setLane l x).setProf p (s.prof p) = s.setLane l x := by simp [State.setProf, State.setLane, State.prof]

theorem State.judgeEffect_eq (s : State) (l : Fin 12) (p : Fin 384) (forward : Bool) :
    s.judgeEffect l p forward =
      ((s.setLane l ((s.lane l).judged (s.prof p) forward)).setProf p ((s.prof p).judged (s.lane l))).setOutput
        (s.output.judged s.counter (s.lane l) p (s.prof p)) := by
  have same : notJudged { s.lane l with forwarded := (s.lane l).forwarded || forward } (s.prof p) =
    notJudged (s.lane l) (s.prof p) := rfl
  unfold State.judgeEffect Lane.judged Profile.judged OutputQueue.judged
  dsimp only
  rw [same]
  by_cases skip : notJudged (s.lane l) (s.prof p) = true
  · simp only [if_pos skip]
    rw [State.setLane_setProf_self]
    rfl
  · simp only [if_neg skip]
    by_cases pass : (s.lane l).cls.gate ≤ (s.lane l).chain.mer
    · simp only [if_pos pass]; rfl
    · simp only [if_neg pass]
      split <;> rfl

/-- A judgement writes flags and the record of a lane alone. -/
theorem Lane.judged_keeps (x : Lane) (q : Profile) (forward : Bool) :
    (x.judged q forward).channel = x.channel ∧ (x.judged q forward).holdoverMark = x.holdoverMark ∧
      (x.judged q forward).saturated = x.saturated ∧ (x.judged q forward).record.isSome = x.record.isSome := by
  unfold Lane.judged
  split
  · exact ⟨rfl, rfl, rfl, Option.isSome_map⟩
  · split
    · exact ⟨rfl, rfl, rfl, Option.isSome_map⟩
    · exact ⟨rfl, rfl, rfl, Option.isSome_map⟩

/-- A judgement leaves who holds and claims, and makes no profile RETIRING or not so. -/
theorem Profile.judged_keeps (q : Profile) (x : Lane) :
    (q.judged x).claim = q.claim ∧ ((q.judged x).state = .retiring ↔ q.state = .retiring) := by
  unfold Profile.judged
  split
  · exact ⟨rfl, Iff.rfl⟩
  · rename_i due
    have stays : q.state ≠ .retiring := fun retiring => due (by simp [notJudged, retiring])
    split
    · exact ⟨rfl, iff_of_false nofun stays⟩
    · obtain ⟨-, -, claim⟩ := q.failed_standing x.chain.mer
      exact ⟨claim, by rw [q.failed_state]⟩

/-- The state at a judgement's release: the lane, the profile and the output as judged, the lane's role gone. -/
def State.asJudged (s : State) (l : Fin 12) (y : Lane) (p : Fin 384) (b : Profile) (o : OutputQueue) : State :=
  ((s.setLane l { y with role := .none }).setProf p b).setOutput o

section Judged

variable {l m : Fin 12} {y : Lane} {p : Fin 384} {b : Profile} {o : OutputQueue}

theorem State.asJudged_prof : (s.asJudged l y p b o).prof p = b := by
  rw [State.asJudged, State.setOutput_prof, State.setProf_prof, if_pos rfl]

theorem State.asJudged_lane_own : (s.asJudged l y p b o).lane l = { y with role := .none } := by
  rw [State.asJudged, State.setOutput_lane, State.setProf_lane, State.setLane_lane, if_pos rfl]

theorem State.asJudged_lane_other (ne : m ≠ l) : (s.asJudged l y p b o).lane m = s.lane m := by
  rw [State.asJudged, State.setOutput_lane, State.setProf_lane, State.setLane_lane, if_neg ne.symm]

theorem State.judge_eq (s : State) (l : Fin 12) (p : Fin 384) (forward : Bool) :
    s.judge l p forward = (s.asJudged l ((s.lane l).judged (s.prof p) forward) p ((s.prof p).judged (s.lane l))
      (s.output.judged s.counter (s.lane l) p (s.prof p))).releaseHolder p := by
  unfold State.judge State.asJudged
  dsimp only
  rw [State.judgeEffect_eq, State.setOutput_lane, State.setProf_lane, State.setLane_lane, if_pos rfl]
  generalize s.output.judged s.counter (s.lane l) p (s.prof p) = o
  refine congrArg (State.releaseHolder · p) ?_
  simp only [State.setLane, State.setProf, State.setOutput, Vector.set_set]

theorem State.release_unclaimed (unclaimed : b.claim = none) : (s.asJudged l y p b o).releaseHolder p = { s with
    lanes := s.lanes.set l { y with role := .none }
    profiles := s.profiles.set p
      (if b.state = .retiring then Profile.free else { b with holder := none, overridden := false })
    output := o } := by
  rw [State.releaseHolder_unclaimed (by rwa [State.asJudged_prof]), State.asJudged_prof]
  simp only [State.asJudged, State.setProf, State.setLane, State.setOutput, Vector.set_set]

theorem State.release_claimed (claimed : b.claim = some m) (ne : m ≠ l) (stays : b.state ≠ .retiring) :
    (s.asJudged l y p b o).releaseHolder p = { s with
      lanes := (s.lanes.set l { y with role := .none }).set m { s.lane m with
        role := .holder p
        vec := if (s.lane m).grant.grant.ranging = false ∧ b.state = .bound then b.current else defaultVector
        bias := if (s.lane m).grant.grant.ranging = false ∧ b.state = .bound then b.bias else 0
        cold := !decide ((s.lane m).grant.grant.ranging = false ∧ b.state = .bound) }
      profiles := s.profiles.set p { b with holder := some m, claim := none, overridden := false }
      output := o } := by
  rw [State.releaseHolder_claimed (by rwa [State.asJudged_prof]) (by rwa [State.asJudged_prof]), State.asJudged_prof,
    State.asJudged_lane_other ne]
  simp only [State.asJudged, State.setProf, State.setLane, State.setOutput, Vector.set_set]

theorem State.release_retiring (claimed : b.claim = some m) (ne : m ≠ l) (retiring : b.state = .retiring) :
    (s.asJudged l y p b o).releaseHolder p = { s with
      lanes := (s.lanes.set l { y with role := .none }).set m { s.lane m with
        role := .coldGuest (some p), vec := defaultVector, bias := 0, cold := true, guest := true }
      profiles := s.profiles.set p Profile.free
      output := o } := by
  rw [State.releaseHolder_retiring (by rwa [State.asJudged_prof]) (by rwa [State.asJudged_prof]),
    State.asJudged_lane_other ne]
  simp only [State.asJudged, State.setProf, State.setLane, State.setOutput, Vector.set_set]
  rfl

end Judged

/-- The release of a holder leaves every lane but the claimant. -/
theorem State.releaseHolder_lane_other {p : Fin 384} {k : Fin 12} (other : (s.prof p).claim ≠ some k) :
    (s.releaseHolder p).lane k = s.lane k := by
  cases claim : (s.prof p).claim with
  | none => exact State.releaseHolder_lane_unclaimed claim k
  | some m =>
    have ne : m ≠ k := fun e => other (claim.trans (congrArg some e))
    by_cases retiring : (s.prof p).state = .retiring
    · rw [State.releaseHolder_retiring claim retiring, State.setProf_lane, State.setLane_lane, if_neg ne]
    · rw [State.releaseHolder_claimed claim retiring]
      simp [State.lane, Fin.val_ne_iff.2 ne]

/-- Nothing to judge (R160). -/
theorem notJudged_iff {x : Lane} {q : Profile} {r : BurstRecord} (fixed : x.record = some r) :
    notJudged x q = true ↔ q.state = .retiring ∨ q.overridden = true ∨ r.outcome = .noPreamble ∨ x.chain.n < 16 := by
  simp only [notJudged, fixed, Option.map_some, Bool.or_eq_true, beq_iff_eq, Option.some.injEq, decide_eq_true_iff,
    or_assoc]
  rfl

theorem Lane.judged_skipped {x : Lane} {q : Profile} {r : BurstRecord} (forward : Bool) (fixed : x.record = some r)
    (skipped : notJudged x q = true) : x.judged q forward = { x with
      forwarded := x.forwarded || forward
      overridden := x.overridden || (q.state != .retiring && q.overridden)
      record := some { r with gate := some .nothing } } := by
  rw [Lane.judged, if_pos skipped, fixed]; rfl

theorem Lane.judged_passed {x : Lane} {q : Profile} {r : BurstRecord} (forward : Bool) (fixed : x.record = some r)
    (due : notJudged x q = false) (pass : x.cls.gate ≤ x.chain.mer) : x.judged q forward = { x with
      forwarded := x.forwarded || forward
      record := some (r.passed (recentreOf x.vec x.bias) (shiftVector x.vec (recentreOf x.vec x.bias).applied)) } := by
  rw [Lane.judged, due, if_neg Bool.false_ne_true, if_pos pass, fixed]; rfl

theorem Lane.judged_failed {x : Lane} {q : Profile} {r : BurstRecord} (forward : Bool) (fixed : x.record = some r)
    (due : notJudged x q = false) (fail : x.chain.mer < x.cls.gate) : x.judged q forward = { x with
      forwarded := x.forwarded || forward, record := some { r with gate := some .fail } } := by
  rw [Lane.judged, due, if_neg Bool.false_ne_true, if_neg (Nat.not_le.2 fail), fixed]; rfl

theorem Profile.judged_passed {x : Lane} {q : Profile} (due : notJudged x q = false) (pass : x.cls.gate ≤ x.chain.mer) :
    q.judged x = q.passed (shiftVector x.vec (recentreOf x.vec x.bias).applied) x.offsetFound
      (newBias x.bias (recentreOf x.vec x.bias).shift) x.chain.mer := by
  rw [Profile.judged, due, if_neg Bool.false_ne_true, if_pos pass]

theorem Profile.judged_failed {x : Lane} {q : Profile} (due : notJudged x q = false) (fail : x.chain.mer < x.cls.gate) :
    q.judged x = if q.failCount + 1 < q.revertLimit then
        { q with failCount := q.failCount + 1, lastMer := some x.chain.mer }
      else { q with
        current := q.previous.getD defaultVector, previous := none, failCount := 0, lastMer := some x.chain.mer } := by
  rw [Profile.judged, due, if_neg Bool.false_ne_true, if_neg (Nat.not_le.2 fail), Profile.failed]
  by_cases low : q.failCount + 1 < q.revertLimit
  · rw [if_neg (Nat.not_le.2 low), if_pos low]
  · rw [if_pos (Nat.not_lt.1 low), if_neg low]; rfl

theorem OutputQueue.judged_failed (o : OutputQueue) (counter : Tick) {x : Lane} (p : Fin 384) {q : Profile}
    (due : notJudged x q = false) (fail : x.chain.mer < x.cls.gate) :
    o.judged counter x p q = if q.failCount + 1 < q.revertLimit then o
      else o.placeNotice counter (.profileReverted p q.key) := by
  rw [OutputQueue.judged, due, if_neg Bool.false_ne_true, if_neg (Nat.not_le.2 fail), Profile.failureReverts]
  by_cases low : q.failCount + 1 < q.revertLimit
  · rw [if_pos low, decide_eq_false (Nat.not_le.2 low), if_neg Bool.false_ne_true]
  · rw [if_neg low, decide_eq_true (Nat.not_lt.1 low), if_pos rfl]

theorem OutputQueue.judged_quiet (o : OutputQueue) (counter : Tick) {x : Lane} (p : Fin 384) {q : Profile}
    (quiet : notJudged x q = true ∨ x.cls.gate ≤ x.chain.mer) : o.judged counter x p q = o := by
  unfold OutputQueue.judged
  split
  · rfl
  · rename_i due
    rw [if_pos (quiet.resolve_left due)]

/-- Settles O51: the judgement's three outcomes, the release, and the close completion that makes it. -/
theorem theJudgementWritesTheProfileBack : Obligations.TheJudgementWritesTheProfileBack := by
  unfold Obligations.TheJudgementWritesTheProfileBack
  rintro s l _ p _ r forward _ _ _ rfl rfl fixed rfl rfl rfl
  have notSkipped (standing : (s.prof p).state ≠ .retiring) (own : (s.prof p).overridden = false)
      (found : r.outcome ≠ .noPreamble) (long : 16 ≤ (s.lane l).chain.n) : notJudged (s.lane l) (s.prof p) = false := by
    rw [← Bool.not_eq_true, notJudged_iff fixed]
    rintro (h | h | h | h)
    · exact standing h
    · rw [own] at h; cases h
    · exact found h
    · exact absurd h (Nat.not_lt.2 long)
  obtain ⟨claim, retires⟩ := (s.prof p).judged_keeps (s.lane l)
  refine ⟨(s.lane l).judged (s.prof p) forward, (s.prof p).judged (s.lane l),
    s.output.judged s.counter (s.lane l) p (s.prof p), fun skip => ?_, fun m measured standing own found long pass => ?_,
    fun standing own found long fail => ?_, fun unclaimed => ?_, fun m claimed ne standing => ?_,
    fun m claimed ne retiring => ?_, ?_⟩
  · have skipped := (notJudged_iff fixed).2 skip
    exact ⟨if_pos skipped, OutputQueue.judged_quiet _ _ _ (.inl skipped), Lane.judged_skipped forward fixed skipped⟩
  · have due := notSkipped standing own found long
    refine ⟨OutputQueue.judged_quiet _ _ _ (.inr pass), (Profile.judged_passed due pass).trans ?_,
      (Lane.judged_passed forward fixed due pass).trans ?_⟩
    · have offset : (s.lane l).offsetFound = m.offset := by rw [Lane.offsetFound, measured]; rfl
      rw [offset]; rfl
    · simp only [BurstRecord.passed, RecordFlags.withRecentre, ne_eq_decide_ne]
  · have due := notSkipped standing own found long
    exact ⟨Lane.judged_failed forward fixed due fail, Profile.judged_failed due fail,
      OutputQueue.judged_failed _ _ p due fail⟩
  · rw [State.judge_eq, State.release_unclaimed (claim.trans unclaimed)]
    simp only [retires]
  · rw [State.judge_eq, State.release_claimed (claim.trans claimed) ne fun e => standing (retires.1 e)]
  · rw [State.judge_eq, State.release_retiring (claim.trans claimed) ne (retires.2 retiring)]
  · rintro _ rfl rfl running closing full held unclaimed
    have own : (s.judge l p false).lane l = { (s.lane l).judged (s.prof p) false with role := .none } := by
      rw [State.judge_eq, State.releaseHolder_lane_other (by rw [State.asJudged_prof, claim]; exact unclaimed),
        State.asJudged_lane_own]
    have output : (s.judge l p false).output = s.output.judged s.counter (s.lane l) p (s.prof p) := by
      rw [State.judge_eq, (State.releaseHolder_work _ p).output_of_releasing, State.asJudged, State.setOutput_output]
    obtain ⟨channel, holdover, saturated, recorded⟩ := (s.lane l).judged_keeps (s.prof p) false
    have channels : ∀ k, (s.judge l p false).chan k = s.chan k := fun k => by
      simp only [State.chan, (s.judge_work l p false).channels_of_judging]
    have queues := (s.judge_work l p false).judging_queue
    have serves : ∀ k ch, (s.judge l p false).serves k ch = s.serves k ch := fun k ch => by
      obtain ⟨state, -, channel, -⟩ := (s.judge_work l p false).service k
      simp only [State.serves, state, channel]
    have timebase := (s.judge_work l p false).frame.timebase
    rw [fixed, Option.isSome_some, Option.isSome_iff_exists] at recorded
    generalize s.output.judged s.counter (s.lane l) p (s.prof p) = o at output
    generalize (s.lane l).judged (s.prof p) false = y at own channel holdover saturated recorded
    obtain ⟨f, recorded⟩ := recorded
    rw [exec_closeCompletion running closing full, State.completeClose_held held (by rw [own]; exact recorded)]
    generalize s.judge l p false = u at own output channels queues serves timebase
    have at_ : (u.lane l).channel = (s.lane l).channel := by rw [own]; exact channel
    have ownChan := u.closeOut_chan_own l f
    rw [at_, channels, queues] at ownChan
    simp only [serves] at ownChan
    refine ⟨_, f, rfl, recorded, ?_, fun k ne => ?_, ownChan⟩
    · rw [u.closeOut_eq l f, State.handover_eq, own, output, timebase]
      simp only [holdover, saturated]
    · rw [State.closeOut_chan_other f (by rwa [at_]), channels]

end Sys2Proof.Machine
end

section
/-! Samples: the buffer, the close count and the energy watch (sections 4.3, 4.8, 4.9). -/

namespace Sys2Proof.Machine

variable {s t : State}

/-! ### The energy watch (R69, R70) -/

theorem Lane.symbolAt_eq_some {x : Lane} {pos : Int} {j : Nat} :
    x.symbolAt pos = some j ↔ x.offsetFound + 4 * ((j : Int) + x.bias) = pos := by
  unfold Lane.symbolAt
  dsimp only
  split
  · rename_i on
    rw [Option.some.injEq]
    omega
  · rename_i off
    refine iff_of_false nofun fun at_ => off ?_
    omega

theorem Lane.blockEndingAt_eq_some {x : Lane} {spm j j0 : Nat} : x.blockEndingAt spm j = some j0 ↔
    x.inDataRange spm j = true ∧ (j - x.dataStart) % 8 = 7 ∧ j - 7 = j0 := by
  unfold Lane.blockEndingAt
  split
  · rename_i ends
    rw [Option.some.injEq]
    exact ⟨fun e => ⟨ends.1, ends.2, e⟩, fun h => h.2.2⟩
  · rename_i off
    exact iff_of_false nofun fun h => off ⟨h.1, h.2.1⟩

theorem Lane.inDataRange_iff {x : Lane} {spm j : Nat} : x.inDataRange spm j = true ↔
    (if x.continued then x.base else x.base + x.cls.lp) ≤ j ∧
      j + x.cls.guardLen < x.base + x.grant.grant.length * spm := by
  unfold Lane.inDataRange Lane.dataStart Lane.grantSymbols
  exact decide_eq_true_iff

/-- The block that the arrival of position `pos` completes at the lane. -/
def Lane.blockAt (x : Lane) (spm : Nat) (pos : Int) : Option Nat := (x.symbolAt pos).bind (x.blockEndingAt spm)

/-- No block ends at the position (R69). -/
def Lane.NoBlock (x : Lane) (spm : Nat) (pos : Int) : Prop :=
  ∀ j : Nat, x.offsetFound + 4 * ((j : Int) + x.bias) = pos →
    (if x.continued then x.base else x.base + x.cls.lp) ≤ j →
    j + x.cls.guardLen < x.base + x.grant.grant.length * spm →
    (j - (if x.continued then x.base else x.base + x.cls.lp)) % 8 ≠ 7

theorem Lane.blockAt_eq_none {x : Lane} {spm : Nat} {pos : Int} (noBlock : x.NoBlock spm pos) :
    x.blockAt spm pos = none := by
  unfold Lane.blockAt
  cases symbol : x.symbolAt pos with
  | none => rfl
  | some j =>
    rw [Option.bind_some, Option.eq_none_iff_forall_not_mem]
    intro j0 mem
    obtain ⟨inRange, ends, -⟩ := Lane.blockEndingAt_eq_some.1 mem
    obtain ⟨low, high⟩ := Lane.inDataRange_iff.1 inRange
    exact noBlock j (Lane.symbolAt_eq_some.1 symbol) low high ends

/-- The watch acts on a block alone, in TRACKING and under an energy floor (R69). -/
theorem State.blockArrival_quiet {l : Fin 12} {pos : Int}
    (quiet : (s.lane l).state ≠ .tracking ∨ (s.lane l).cls.floor = 0 ∨
      (s.lane l).NoBlock (s.chan (s.lane l).channel).spm.spm pos) : s.blockArrival l pos = s := by
  unfold State.blockArrival
  dsimp only
  split
  · rename_i watch
    have noBlock := (quiet.resolve_left fun ne => ne watch.1).resolve_left (Nat.pos_iff_ne_zero.1 watch.2)
    have none_ := Lane.blockAt_eq_none noBlock
    unfold Lane.blockAt at none_
    rw [none_]
  · rfl

/-- The watch at the end of a block (R69, R70). -/
theorem State.blockArrival_block {l : Fin 12} {pos : Int} {j : Nat} (tracking : (s.lane l).state = .tracking)
    (floored : 0 < (s.lane l).cls.floor) (block : (s.lane l).blockAt (s.chan (s.lane l).channel).spm.spm pos = some j) :
    s.blockArrival l pos =
      if 2 ≤ ((s.lane l).watchBlock j).lowCount then
        (s.setLane l ((s.lane l).watchBlock j).removeLate).endEarly l .shortened
      else s.setLane l ((s.lane l).watchBlock j) := by
  unfold Lane.blockAt at block
  unfold State.blockArrival
  dsimp only
  rw [if_pos ⟨tracking, floored⟩, block]
  dsimp only
  split <;> rfl

theorem State.headFollows_setLane {l : Fin 12} {x : Lane} (same : x.SameService (s.lane l)) :
    (s.setLane l x).headFollows l = s.headFollows l := by
  obtain ⟨state, grant, channel, -, -⟩ := same
  simp only [State.headFollows, State.setLane_lane, if_true, State.setLane_queue, Lane.precedes, state, grant, channel]

/-! ### The arrival of a sample that completes nothing (R59, R60, R72) -/

theorem State.symbolArrival_quiet {l : Fin 12} {pos : Int}
    (early : pos < (s.lane l).offsetFound + 4 * (((s.lane l).nextPos : Int) + 6 + (s.lane l).bias)) :
    s.symbolArrival l pos = s := by
  unfold State.symbolArrival
  dsimp only
  rw [if_neg]
  rintro ⟨-, due⟩
  simp only [Lane.gridPos] at due
  omega

/-- What a sample that completes nothing makes of a lane of its channel. -/
def Lane.sampled (x : Lane) (v : Sample) : Lane :=
  match x.state with
  | .free | .armed => x
  | .searching | .training | .tracking => { x with buffer := x.buffer ++ [v] }
  | .closing => { x with closeCount := min 128 (x.closeCount + 1) }

/-- The sample completes neither the lane's next position nor an energy block. -/
def Lane.AwaitsMore (x : Lane) (spm : Nat) : Prop :=
  (x.state = .training ∨ x.state = .tracking) →
    x.firstPos + (x.buffer.length : Int) < x.offsetFound + 4 * ((x.nextPos : Int) + 6 + x.bias) ∧
      (x.state = .training ∨ x.cls.floor = 0 ∨ x.NoBlock spm (x.firstPos + (x.buffer.length : Int)))

theorem State.setLane_self (s : State) (l : Fin 12) : s.setLane l (s.lane l) = s := by
  simp [State.setLane, State.lane]

theorem State.laneSample_quiet {l : Fin 12} (v : Sample)
    (quiet : (s.lane l).AwaitsMore (s.chan (s.lane l).channel).spm.spm) :
    s.laneSample l v = s.setLane l ((s.lane l).sampled v) := by
  have buffered (receives : (s.lane l).state = .training ∨ (s.lane l).state = .tracking) :
      (s.setLane l { s.lane l with buffer := (s.lane l).buffer ++ [v] }).positionArrival l
        ((s.lane l).firstPos + ((s.lane l).buffer.length : Int)) =
      s.setLane l { s.lane l with buffer := (s.lane l).buffer ++ [v] } := by
    obtain ⟨early, noBlock⟩ := quiet receives
    have own : (s.setLane l { s.lane l with buffer := (s.lane l).buffer ++ [v] }).lane l =
      { s.lane l with buffer := (s.lane l).buffer ++ [v] } := by rw [State.setLane_lane, if_pos rfl]
    unfold State.positionArrival
    rw [State.symbolArrival_quiet (by rw [own]; exact early), State.blockArrival_quiet]
    rw [own]
    exact noBlock.imp (fun e => by rw [e]; nofun) id
  unfold State.laneSample Lane.sampled
  dsimp only
  cases state : (s.lane l).state with
  | free | armed => exact (s.setLane_self l).symm
  | searching => rfl
  | training => simpa only [state] using buffered (.inl state)
  | tracking => simpa only [state] using buffered (.inr state)
  | closing => rfl

/-- A sample reaches the lanes of a list, completing nothing at any. -/
theorem laneSample_foldl (v : Sample) : ∀ (ls : List (Fin 12)) (s : State), ls.Nodup →
    (∀ l ∈ ls, (s.lane l).AwaitsMore (s.chan (s.lane l).channel).spm.spm) →
    ls.foldl (fun s l => s.laneSample l v) s = { s with lanes := (ls.foldl (fun s l => s.laneSample l v) s).lanes } ∧
      ∀ k, (ls.foldl (fun s l => s.laneSample l v) s).lane k = if k ∈ ls then (s.lane k).sampled v else s.lane k
  | [], _, _, _ => ⟨rfl, fun _ => rfl⟩
  | l :: ls, s, distinct, quiet => by
    obtain ⟨fresh, distinct⟩ := List.nodup_cons.1 distinct
    rw [List.foldl_cons, State.laneSample_quiet v (quiet l List.mem_cons_self)]
    have other {k : Fin 12} (ne : k ≠ l) : (s.setLane l ((s.lane l).sampled v)).lane k = s.lane k := by
      rw [State.setLane_lane, if_neg ne.symm]
    obtain ⟨rest, lanes⟩ := laneSample_foldl v ls (s.setLane l ((s.lane l).sampled v)) distinct fun k mem => by
      have ne : k ≠ l := by rintro rfl; exact fresh mem
      rw [other ne]
      exact quiet k (List.mem_cons_of_mem _ mem)
    refine ⟨rest, fun k => ?_⟩
    rw [lanes k]
    by_cases same : k = l
    · subst same
      rw [if_neg fresh, if_pos List.mem_cons_self, State.setLane_lane, if_pos rfl]
    · rw [other same]
      simp only [List.mem_cons, same, false_or]

theorem Lane.sampled_eq (x : Lane) (v : Sample) : x.sampled v =
    if x.state = .searching ∨ x.state = .training ∨ x.state = .tracking then { x with buffer := x.buffer ++ [v] }
    else if x.state = .closing then { x with closeCount := min 128 (x.closeCount + 1) } else x := by
  unfold Lane.sampled
  cases x.state <;> rfl

theorem exec_sampleArrival {ch : Fin 6} {re im : BitVec 12} (running : s.resetHeld = false) :
    exec (.sampleArrival ch re im) s = .next ((s.lanesOf ch).foldl (fun s l => s.laneSample l ⟨re, im⟩) s) := by
  show execSampleArrival ch re im s = _
  rw [execSampleArrival, State.unlessReset_running _ _ running]

/-! ### A low block (R69, R70, R114, R116) -/

theorem Lane.blockEnergy_eq {x : Lane} {j : Nat} {input : Nat → Int}
    (at_ : ∀ i, input i = x.offsetFound + 4 * ((i : Int) + x.bias)) :
    x.blockEnergy j = ((List.range 8).map fun i => (x.sampleAt (input (j + i))).sq).sum := by
  unfold Lane.blockEnergy
  refine congrArg List.sum (List.map_congr_left fun i _ => ?_)
  rw [at_, Lane.gridPos]

theorem Lane.blockAt_of_ends {x : Lane} {spm j : Nat} {pos : Int}
    (ends : x.offsetFound + 4 * (((j + 7 : Nat) : Int) + x.bias) = pos)
    (low : (if x.continued then x.base else x.base + x.cls.lp) ≤ j)
    (aligned : (j - (if x.continued then x.base else x.base + x.cls.lp)) % 8 = 0)
    (high : j + 7 + x.cls.guardLen < x.base + x.grant.grant.length * spm) : x.blockAt spm pos = some j := by
  unfold Lane.blockAt
  rw [Lane.symbolAt_eq_some.2 ends, Option.bind_some]
  refine Lane.blockEndingAt_eq_some.2 ⟨Lane.inDataRange_iff.2 ⟨low.trans (Nat.le_add_right j 7), high⟩, ?_,
    Nat.add_sub_cancel j 7⟩
  show (j + 7 - (if x.continued then x.base else x.base + x.cls.lp)) % 8 = 7
  omega

/-- The lane at its second low block, before it closes (R70). -/
theorem Lane.removeLate_closed (x : Lane) (l : Fin 12) : ∃ r : BurstRecord,
    x.removeLate.closed l .shortened = { x.removeLate with
      state := .closing, closeCount := 0, lowCount := 0, lowStart := 0, record := some r } ∧
      r.outcome = .shortened ∧ r.cause = none ∧ r.gate = some .nothing ∧ r.lane = some l ∧
      r.symbols = some ((x.symbols.filter fun y => decide (y.position < x.lowStart)).map fun z => (z.i, z.q)) ∧
      r.sums = some x.removeLate.member ∧ r.measurement = x.measurement :=
  ⟨_, rfl, rfl, rfl, rfl, rfl, rfl, rfl, rfl⟩

theorem State.setLane_enterClosing_unclaimed {l : Fin 12} {z : Lane} (o : BurstOutcome)
    (unclaimed : ∀ p, z.role = .holder p → (s.prof p).claim = none) :
    (s.setLane l z).enterClosing l o = s.setLane l (z.closed l o) := by
  have own : (s.setLane l z).lane l = z := by rw [State.setLane_lane, if_pos rfl]
  have bare : ∀ p, ((s.setLane l z).lane l).role = .holder p → ((s.setLane l z).prof p).claim = none := by
    rw [own]; exact unclaimed
  rw [State.enterClosing_unclaimed o bare, own, State.setLane_setLane]

theorem State.setLane_enterClosing_claimed {l : Fin 12} {z : Lane} {p : Fin 384} (o : BurstOutcome)
    (held : z.role = .holder p) (claimed : (s.prof p).claim ≠ none) :
    (s.setLane l z).enterClosing l o = (s.setLane l (z.closed l o)).judge l p true := by
  have own : (s.setLane l z).lane l = z := by rw [State.setLane_lane, if_pos rfl]
  have role : ((s.setLane l z).lane l).role = .holder p := by rw [own]; exact held
  rw [State.enterClosing_claimed o role claimed, own, State.setLane_setLane]

/-- Settles O46: the samples that complete nothing, and the energy watch. -/
theorem samplesAreBufferedAndCounted : Obligations.SamplesAreBufferedAndCounted := by
  unfold Obligations.SamplesAreBufferedAndCounted
  refine ⟨fun s ch re im running quiet => ?_, ?_⟩
  · have distinct : (s.lanesOf ch).Nodup := List.Nodup.filter _ (by decide)
    obtain ⟨only, lanes⟩ := laneSample_foldl ⟨re, im⟩ (s.lanesOf ch) s distinct fun l mem receives => by
      have serves := State.mem_lanesOf.1 mem
      rw [(State.serves_iff.1 serves).2]
      exact quiet l _ _ _ rfl serves receives rfl rfl
    refine ⟨_, exec_sampleArrival running, only, fun l => ?_⟩
    rw [lanes l]
    simp only [State.mem_lanesOf, Lane.sampled_eq]
    by_cases serves : s.serves l ch = true <;> simp [serves]
  · rintro s l _ pos _ _ input rfl rfl rfl at_
    refine ⟨fun quiet => State.blockArrival_quiet ?_, ?_⟩
    · refine quiet.imp_right (Or.imp_right fun noBlock j here => noBlock j ((at_ j).trans here))
    · rintro j _ _ _ tracking ends low aligned high rfl
      have block := Lane.blockAt_of_ends ((at_ (j + 7)).symm.trans ends) low aligned high
      have energy := Lane.blockEnergy_eq (j := j) at_
      rw [← energy]
      refine ⟨fun floored enough => ?_, fun poor first => ?_, ?_⟩
      · rw [State.blockArrival_block tracking floored block, Lane.watchBlock, if_neg (Nat.not_lt.2 enough)]
        rfl
      · have floored : 0 < (s.lane l).cls.floor := Nat.zero_lt_of_lt poor
        rw [State.blockArrival_block tracking floored block, Lane.watchBlock, if_pos poor, first]
        rfl
      · rintro poor second rfl rfl
        have floored : 0 < (s.lane l).cls.floor := Nat.zero_lt_of_lt poor
        have watched : (s.lane l).watchBlock j = { s.lane l with lowCount := (s.lane l).lowCount + 1 } := by
          rw [Lane.watchBlock, if_pos poor, if_neg (Nat.one_le_iff_ne_zero.1 second)]
        have arrives : s.blockArrival l pos =
            (s.setLane l ({ s.lane l with lowCount := (s.lane l).lowCount + 1 } : Lane).removeLate).endEarly l .shortened := by
          rw [State.blockArrival_block tracking floored block, watched, if_pos (Nat.succ_le_succ second)]
        rw [arrives]
        have same : Lane.SameService ({ s.lane l with lowCount := (s.lane l).lowCount + 1 } : Lane).removeLate (s.lane l) :=
          ⟨rfl, rfl, rfl, rfl, rfl⟩
        have role : ({ s.lane l with lowCount := (s.lane l).lowCount + 1 } : Lane).removeLate.role = (s.lane l).role := rfl
        obtain ⟨r, closed, outcome, cause, gate, lane, symbols, sums, measurement⟩ :=
          Lane.removeLate_closed { s.lane l with lowCount := (s.lane l).lowCount + 1 } l
        have shape : ({ s.lane l with lowCount := (s.lane l).lowCount + 1 } : Lane).removeLate.closed l .shortened =
            { s.lane l with
              state := .closing, closeCount := 0, lowCount := 0, lowStart := 0, record := some r
              symbols := ({ s.lane l with lowCount := (s.lane l).lowCount + 1 } : Lane).removeLate.symbols
              member := ({ s.lane l with lowCount := (s.lane l).lowCount + 1 } : Lane).removeLate.member
              chain := ({ s.lane l with lowCount := (s.lane l).lowCount + 1 } : Lane).removeLate.chain } := closed
        have follows := State.headFollows_setLane same
        generalize late : ({ s.lane l with lowCount := (s.lane l).lowCount + 1 } : Lane).removeLate = z at *
        have own : (s.setLane l z).lane l = z := by rw [State.setLane_lane, if_pos rfl]
        refine ⟨_, (s.setLane l z).enterClosing l .shortened, z.closed l .shortened, r, rfl, ?_, outcome, cause, gate, lane,
          symbols, ?_, measurement, fun unclaimed => ?_, fun p held claimed => ?_, fun alone => ?_,
          fun g rest linked waits early => ?_⟩
        · rw [shape, ← late]; rfl
        · rw [shape]; exact sums
        · exact State.setLane_enterClosing_unclaimed _ (role ▸ unclaimed)
        · exact State.setLane_enterClosing_claimed _ (role.trans held) claimed
        · exact State.endEarly_alone _ (follows.trans alone)
        · have channel : ((s.setLane l z).lane l).channel = (s.lane l).channel := by rw [own]; exact same.2.2.1
          have falls := State.endEarly_fallsBack (s := s.setLane l z) .shortened (follows.trans linked)
            (by rw [channel]; exact waits) early
          rwa [channel] at falls

end Sys2Proof.Machine
end

section
/-! A completed symbol (chapter 6): the filter, the decision, the sums and the adaptation, component by component. -/

namespace Sys2Proof.Machine

variable {s t : State}

/-! ### The filter (R101, R102, R103) -/

theorem foldl_cxAdd_fin (f : Fin 24 → Cx) : ∀ (ks : List (Fin 24)) (acc : Cx),
    ks.foldl (fun acc k => acc.add (f k)) acc =
      ⟨acc.re + (ks.map fun k => (f k).re).sum, acc.im + (ks.map fun k => (f k).im).sum⟩
  | [], acc => by simp
  | k :: ks, acc => by
    rw [List.foldl_cons, foldl_cxAdd_fin f ks]
    simp [Cx.add, add_assoc]

/-- The accumulator, component by component (R102). -/
theorem Lane.accumulate_eq {x : Lane} {j : Nat} {a : Fin 24 → Cx} (inputs : ∀ k : Fin 24, x.tapInput j k.val = a k) :
    x.accumulate j =
      ⟨((List.finRange 24).map fun k => x.vec[k].re.toInt * (a k).re - x.vec[k].im.toInt * (a k).im).sum,
       ((List.finRange 24).map fun k => x.vec[k].re.toInt * (a k).im + x.vec[k].im.toInt * (a k).re).sum⟩ := by
  unfold Lane.accumulate tapIds
  rw [foldl_cxAdd_fin]
  simp only [inputs, Cx.mul, Coef.toCx, Cx.zero, zero_add]

theorem outputSaturates_eq (acc : Cx) :
    outputSaturates acc = decide (equalized acc ≠ ⟨roundShift 14 acc.re, roundShift 14 acc.im⟩) := by
  rw [Bool.eq_iff_iff, decide_eq_true_iff]
  simp only [outputSaturates, equalized, Bool.or_eq_true, bne_iff_ne, ne_eq, Cx.mk.injEq, not_and_or]

/-! ### The adaptation (R109, R110, R111) -/

/-- A tap's exact sum before saturation, component by component (R109). -/
theorem tapSum_eq (shift : Nat) (e a : Cx) (c : Coef) : tapSum shift e a c =
    ⟨c.re.toInt + (e.re * a.re + e.im * a.im + 2 ^ (shift - 1)) / 2 ^ shift,
     c.im.toInt + (e.im * a.re - e.re * a.im + 2 ^ (shift - 1)) / 2 ^ shift⟩ := by
  have real : e.re * a.re - e.im * -a.im = e.re * a.re + e.im * a.im := by ring
  have imaginary : e.re * -a.im + e.im * a.re = e.im * a.re - e.re * a.im := by ring
  simp only [tapSum, tapIncrement, Cx.add, Cx.mul, Cx.conj, Coef.toCx, roundShift, real, imaginary]

theorem saturateCoef_ne {v : Int} : saturateCoef v ≠ v ↔ ¬(-32768 ≤ v ∧ v ≤ 32767) := by
  simp only [saturateCoef, clampInt]
  omega

theorem tapSaturates_iff {shift : Nat} {e a : Cx} {c : Coef} {w : Cx} (sum : tapSum shift e a c = w) :
    tapSaturates shift e a c = true ↔
      ¬(-32768 ≤ w.re ∧ w.re ≤ 32767 ∧ -32768 ≤ w.im ∧ w.im ≤ 32767) := by
  have real := @saturateCoef_ne w.re
  have imaginary := @saturateCoef_ne w.im
  simp only [tapSaturates, sum, Bool.or_eq_true, bne_iff_ne]
  rw [real, imaginary]
  tauto

/-- The adaptation step, tap by tap (R109 to R111). -/
theorem Lane.adapt_eq {x : Lane} {shift j : Nat} {e : Cx} {w : Fin 24 → Cx}
    (sums : ∀ k : Fin 24, tapSum shift e (x.tapInput j k.val) x.vec[k] = w k) :
    x.adapt shift j e = { x with
      vec := if shift = 0 then x.vec
        else Vector.ofFn fun k : Fin 24 =>
          ⟨BitVec.ofInt 16 (max (-32768) (min 32767 (w k).re)), BitVec.ofInt 16 (max (-32768) (min 32767 (w k).im))⟩
      saturated := decide (x.saturated = true ∨ (shift ≠ 0 ∧ ∃ k,
        ¬(-32768 ≤ (w k).re ∧ (w k).re ≤ 32767 ∧ -32768 ≤ (w k).im ∧ (w k).im ≤ 32767))) } := by
  unfold Lane.adapt
  by_cases frozen : shift = 0
  · simp [frozen]
  · have taps : (fun k : Fin 24 => adaptTap shift e (x.tapInput j k.val) x.vec[k]) = fun k : Fin 24 =>
        (⟨BitVec.ofInt 16 (max (-32768) (min 32767 (w k).re)),
          BitVec.ofInt 16 (max (-32768) (min 32767 (w k).im))⟩ : Coef) := by
      funext k
      simp only [adaptTap, sums k, saturateCoef, clampInt]
    have noted : (x.saturated || tapIds.any fun k => tapSaturates shift e (x.tapInput j k.val) x.vec[k]) =
        decide (x.saturated = true ∨ (shift ≠ 0 ∧ ∃ k,
          ¬(-32768 ≤ (w k).re ∧ (w k).re ≤ 32767 ∧ -32768 ≤ (w k).im ∧ (w k).im ≤ 32767))) := by
      rw [Bool.eq_iff_iff, Bool.or_eq_true, decide_eq_true_iff, List.any_eq_true]
      simp only [tapIds, List.mem_finRange, true_and, tapSaturates_iff (sums _), frozen, ne_eq, not_false_eq_true]
    rw [if_neg frozen, if_neg frozen, taps, noted]

/-! ### The arrival that completes a symbol (R60, R62, R64, R66) -/

theorem State.symbolArrival_due {l : Fin 12} {pos : Int} {y : Lane}
    (receives : (s.lane l).state = .training ∨ (s.lane l).state = .tracking)
    (due : (s.lane l).offsetFound + 4 * (((s.lane l).nextPos : Int) + 6 + (s.lane l).bias) ≤ pos)
    (processed : (s.lane l).processNext (s.chan (s.lane l).channel).spm.spm = y) :
    s.symbolArrival l pos =
      if (s.lane l).state = .training ∧ y.state = .tracking ∧ y.endReached then (s.setLane l y).endOfGrant l
      else s.setLane l y := by
  unfold State.symbolArrival
  dsimp only
  rw [if_pos ⟨receives, due⟩, processed]

/-! ### One position (R64, R66, R107, R108, R112, R115) -/

section Position

variable {x : Lane} {j shift : Nat} {a w : Fin 24 → Cx} {rounded v target e : Cx}

/-- The vector after the adaptation (R109, R110). -/
def adapted (shift : Nat) (vec : CoefVector) (w : Fin 24 → Cx) : CoefVector :=
  if shift = 0 then vec
  else Vector.ofFn fun k : Fin 24 =>
    ⟨BitVec.ofInt 16 (max (-32768) (min 32767 (w k).re)), BitVec.ofInt 16 (max (-32768) (min 32767 (w k).im))⟩

/-- Saturation was noted before, changed the output or changed a tap (R103, R111). -/
def saturates (x : Lane) (shift : Nat) (rounded v : Cx) (w : Fin 24 → Cx) : Bool :=
  decide (x.saturated = true ∨ v ≠ rounded ∨ (shift ≠ 0 ∧ ∃ k,
    ¬(-32768 ≤ (w k).re ∧ (w k).re ≤ 32767 ∧ -32768 ≤ (w k).im ∧ (w k).im ≤ 32767)))

/-- The filter's output and the note of its saturation (R102, R103). -/
structure Lane.Filters (x : Lane) (j : Nat) (rounded v : Cx) : Prop where
  output : equalized (x.accumulate j) = v
  noted : outputSaturates (x.accumulate j) = decide (v ≠ rounded)

theorem Lane.filters (inputs : ∀ k : Fin 24, x.tapInput j k.val = a k) {sum : Cx}
    (exact_ : sum = ⟨((List.finRange 24).map fun k => x.vec[k].re.toInt * (a k).re - x.vec[k].im.toInt * (a k).im).sum,
      ((List.finRange 24).map fun k => x.vec[k].re.toInt * (a k).im + x.vec[k].im.toInt * (a k).re).sum⟩)
    (rounds : rounded = ⟨(sum.re + 2 ^ 13) / 2 ^ 14, (sum.im + 2 ^ 13) / 2 ^ 14⟩)
    (saturated : v = ⟨max (-2048) (min 2047 rounded.re), max (-2048) (min 2047 rounded.im)⟩) :
    x.Filters j rounded v := by
  have accumulated := (Lane.accumulate_eq inputs).trans exact_.symm
  have output : equalized (x.accumulate j) = v := by
    rw [accumulated, saturated, rounds]; rfl
  refine ⟨output, ?_⟩
  rw [outputSaturates_eq, output, accumulated, rounds]
  rfl

/-- The adaptation after the filter noted its saturation. -/
theorem Lane.adapt_noted (filters : x.Filters j rounded v)
    (sums : ∀ k : Fin 24, tapSum shift e (x.tapInput j k.val) x.vec[k] = w k) :
    Lane.adapt { x with saturated := x.saturated || outputSaturates (x.accumulate j) } shift j e =
      { x with vec := adapted shift x.vec w, saturated := saturates x shift rounded v w } := by
  rw [Lane.adapt_eq (x := { x with saturated := x.saturated || outputSaturates (x.accumulate j) }) sums]
  have noted : decide ((x.saturated || outputSaturates (x.accumulate j)) = true ∨ (shift ≠ 0 ∧ ∃ k,
      ¬(-32768 ≤ (w k).re ∧ (w k).re ≤ 32767 ∧ -32768 ≤ (w k).im ∧ (w k).im ≤ 32767))) =
      saturates x shift rounded v w := by
    rw [saturates, filters.noted, decide_eq_decide, Bool.or_eq_true, decide_eq_true_iff, or_assoc]
  rw [← noted]
  rfl

/-- A preamble position (R64, R107). -/
theorem Lane.trainSymbol_eq (filters : x.Filters j rounded v) (pattern : target = quadrantPoint (x.preamble.getD j 0))
    (error : e = ⟨target.re - v.re, target.im - v.im⟩)
    (sums : ∀ k : Fin 24, tapSum x.cls.muTrain e (x.tapInput j k.val) x.vec[k] = w k) :
    x.trainSymbol j = { x with
      vec := adapted x.cls.muTrain x.vec w, saturated := saturates x x.cls.muTrain rounded v w } := by
  have error' : (quadrantPoint (x.preamble.getD j 0)).sub (equalized (x.accumulate j)) = e := by
    rw [filters.output, ← pattern, error]; rfl
  unfold Lane.trainSymbol
  dsimp only
  rw [error']
  exact Lane.adapt_noted filters sums

/-- A data position (R66, R108, R112, R115). -/
theorem Lane.decideSymbol_eq (filters : x.Filters j rounded v)
    (decision : target = ⟨sliceLevel x.cls.modulation v.re, sliceLevel x.cls.modulation v.im⟩)
    (error : e = ⟨target.re - v.re, target.im - v.im⟩)
    (sums : ∀ k : Fin 24, tapSum x.cls.muTrack e (x.tapInput j k.val) x.vec[k] = w k) :
    x.decideSymbol j = { x with
      vec := adapted x.cls.muTrack x.vec w, saturated := saturates x x.cls.muTrack rounded v w
      symbols := x.symbols ++ [⟨j, sliceIndex x.cls.modulation v.re, sliceIndex x.cls.modulation v.im, e.sq, target.sq⟩]
      member := x.member.plus e.sq target.sq, chain := x.chain.plus e.sq target.sq } := by
  have slices : slice x.cls.modulation (equalized (x.accumulate j)) = target := by
    rw [filters.output, decision]; rfl
  have error' : target.sub (equalized (x.accumulate j)) = e := by rw [filters.output, error]; rfl
  have noted := Lane.adapt_noted (x := { x with
      symbols := x.symbols ++ [⟨j, sliceIndex x.cls.modulation v.re, sliceIndex x.cls.modulation v.im, e.sq, target.sq⟩]
      member := x.member.plus e.sq target.sq, chain := x.chain.plus e.sq target.sq })
    (shift := x.cls.muTrack) (e := e) ⟨filters.output, filters.noted⟩ sums
  unfold Lane.decideSymbol
  dsimp only
  rw [slices, error', filters.output]
  exact noted

end Position

/-- Settles O47: the arrival completes nothing, a position outside the data range, a data symbol, or a pattern symbol. -/
theorem aCompletedSymbolIsDecided : Obligations.ACompletedSymbolIsDecided := by
  unfold Obligations.ACompletedSymbolIsDecided
  rintro s ch re im l _ _ _ data running alone receives rfl rfl rfl inRange
  have serves : s.serves l ch = true := by rw [alone]; exact decide_eq_true rfl
  have arrives := exec_sampleArrival_single (re := re) (im := im) running alone receives
  generalize buffered : ({ s.lane l with buffer := (s.lane l).buffer ++ [⟨re, im⟩] } : Lane) = x at *
  have channel : x.channel = ch := by rw [← buffered]; exact (State.serves_iff.1 serves).2
  have own : (s.setLane l x).lane l = x := by rw [State.setLane_lane, if_pos rfl]
  have chan : (s.setLane l x).chan x.channel = s.chan ch := by rw [channel]; rfl
  have first : (s.lane l).firstPos = x.firstPos := by rw [← buffered]
  rw [first] at arrives
  clear buffered
  generalize x.firstPos + ((s.lane l).buffer.length : Int) = pos at *
  have completes {y : Lane} (complete : x.offsetFound + 4 * ((x.nextPos : Int) + 6 + x.bias) ≤ pos)
      (processed : x.processNext (s.chan ch).spm.spm = y) : exec (.sampleArrival ch re im) s =
      .next ((if x.state = .training ∧ y.state = .tracking ∧ y.endReached then (s.setLane l y).endOfGrant l
        else s.setLane l y).blockArrival l pos) := by
    have symbol := State.symbolArrival_due (s := s.setLane l x) (l := l) (pos := pos) (y := y) (by rwa [own])
      (by rwa [own]) (by rwa [own, chan])
    rw [own, State.setLane_setLane] at symbol
    rw [arrives, State.positionArrival, symbol]
  have ranges : x.inDataRange (s.chan ch).spm.spm x.nextPos = data := inRange.symm
  refine ⟨fun early => ?_, fun complete tracking outside => ?_, ?_⟩
  · rw [arrives, State.positionArrival, State.symbolArrival_quiet (by rwa [own])]
    rfl
  · have still : x.state ≠ .training := by rw [tracking]; nofun
    have passed : x.processNext (s.chan ch).spm.spm = { x with nextPos := x.nextPos + 1 } := by
      rw [Lane.processNext, if_neg still, ranges, outside, if_neg Bool.false_ne_true]
    rw [completes complete passed, if_neg fun h => still h.1]
    rfl
  · rintro y z shift a w sum rounded v target e plus complete inputs exact_ rounds saturated error sums rfl adds
    have filters := Lane.filters (x := x) (j := x.nextPos) (fun k => (inputs k).symm) exact_ rounds saturated
    have taps (k : Fin 24) : tapSum shift e (x.tapInput x.nextPos k.val) x.vec[k] = w k := by
      rw [tapSum_eq, sums k, inputs k]; rfl
    refine ⟨fun tracking here muTrack decision shape => ?_, fun training muTrain pattern shape => ?_⟩
    · have still : x.state ≠ .training := by rw [tracking]; nofun
      subst muTrack
      have processed : x.processNext (s.chan ch).spm.spm = z := by
        rw [Lane.processNext, if_neg still, ranges, here, if_pos rfl, Lane.decideSymbol_eq filters decision error taps, shape]
        simp only [adds]
        rfl
      rw [completes complete processed, if_neg fun h => still h.1]
      rfl
    · subst muTrain
      have processed : x.processNext (s.chan ch).spm.spm = z := by
        rw [Lane.processNext, if_pos training, Lane.trainSymbol_eq filters pattern error taps, shape]
        rfl
      rw [completes complete processed]
      refine ⟨fun goesOn => ?_, fun u tracking reached ended => ?_⟩
      · rw [if_neg]
        · rfl
        · rintro ⟨-, tracking, reached⟩
          rcases goesOn with still | early
          · rw [still] at tracking; cases tracking
          · rw [shape] at reached
            rw [early] at reached
            cases reached
      · have reached' : z.endReached = true := by rw [shape]; exact reached
        have zown : (s.setLane l z).lane l = z := by rw [State.setLane_lane, if_pos rfl]
        have event := exec_endEvent (s := s.setLane l z) (l := l) running (by rw [zown]; exact tracking)
          (by rw [zown]; exact reached')
        rw [if_pos ⟨training, tracking, reached'⟩]
        have same : Host.Outcome.next ((s.setLane l z).endOfGrant l) = .next u := event.symm.trans ended
        cases same
        rfl

end Sys2Proof.Machine
end

section
/-! The slicer (section 6.3). -/

namespace Sys2Proof.Machine

/-! ### Levels (R104, R105) -/

/-- A whole multiple of the step is 0 or at least one step away from it. -/
theorem mul_step {d : Int} (step : 0 < d) (n : Int) :
    (n = 0 ∧ d * n = 0) ∨ (1 ≤ n ∧ d ≤ d * n) ∨ (n ≤ -1 ∧ d * n ≤ -d) := by
  rcases lt_trichotomy n 0 with neg | rfl | pos
  · exact .inr (.inr ⟨by omega, by nlinarith⟩)
  · exact .inl ⟨rfl, mul_zero d⟩
  · exact .inr (.inl ⟨by omega, by nlinarith⟩)

/-- Of the levels (2k + 1)d with k in low .. high, the one at the quotient of v by 2d, held in those bounds, is the nearest
to v, and of two as near the upper one. -/
theorem nearest_level {d v low high q k : Int} (step : 0 < d) (quotient : q = max low (min high (v / (2 * d))))
    (above : low ≤ k) (below : k ≤ high) :
    |v - (2 * q + 1) * d| ≤ |v - (2 * k + 1) * d| ∧ (|v - (2 * q + 1) * d| = |v - (2 * k + 1) * d| → k ≤ q) := by
  have floor := Int.emod_add_mul_ediv v (2 * d)
  have rem_nonneg := Int.emod_nonneg v (b := 2 * d) (by omega)
  have rem_lt := Int.emod_lt_of_pos v (b := 2 * d) (by omega)
  generalize v / (2 * d) = f at *
  generalize v % (2 * d) = r at *
  have atQ : v - (2 * q + 1) * d = r - d + 2 * (d * (f - q)) := by rw [← floor]; ring
  have atK : v - (2 * k + 1) * d = r - d + 2 * (d * (f - q)) + 2 * (d * (q - k)) := by rw [← floor]; ring
  have fromQ := mul_step step (f - q)
  have fromK := mul_step step (q - k)
  rw [atQ, atK]
  generalize d * (f - q) = a at *
  generalize d * (q - k) = b at *
  rcases abs_cases (r - d + 2 * a) with ⟨eqQ, _⟩ | ⟨eqQ, _⟩ <;>
    rcases abs_cases (r - d + 2 * a + 2 * b) with ⟨eqK, _⟩ | ⟨eqK, _⟩ <;> rw [eqQ, eqK] <;> omega

theorem levels_even (m : Modulation) : 0 < levels m / 2 ∧ levels m = 2 * (levels m / 2) ∧ 0 < levelStep m := by
  cases m <;> decide

/-- Settles O53: the quotient's index is the nearest level's. -/
theorem theSlicerTakesTheNearestLevel : Obligations.TheSlicerTakesTheNearestLevel := by
  unfold Obligations.TheSlicerTakesTheNearestLevel
  intro m v _ _
  obtain ⟨half, even, step⟩ := levels_even m
  have quotient : sliceQuotient m v = max (-(levels m / 2)) (min (levels m / 2 - 1) (v / (2 * levelStep m))) := rfl
  have low : 0 ≤ sliceQuotient m v + levels m / 2 := by omega
  have index : (((sliceQuotient m v + levels m / 2).toNat : Nat) : Int) = sliceQuotient m v + levels m / 2 :=
    Int.toNat_of_nonneg low
  refine ⟨(sliceQuotient m v + levels m / 2).toNat, by omega, rfl, ?_, fun j high => ?_⟩
  · rw [index, add_sub_cancel_right]; rfl
  · obtain ⟨nearest, upper⟩ := nearest_level (k := (j : Int) - levels m / 2) step quotient (by omega) (by omega)
    exact ⟨nearest, fun same => by have := upper same; omega⟩

end Sys2Proof.Machine
end

section
/-! The output queue's placing and the bytes of what it holds (chapter 9 and section 10.6). -/

namespace Sys2Proof.Machine

/-! ### Placing (R178, R181) -/

theorem OutputQueue.bytes_sum (o : OutputQueue) : (o.items.map fun x => x.bytes.length).sum = o.fill := by
  simp only [OutputQueue.fill, OutItem.bytes_length]

theorem OutputQueue.placeRecord_eq (o : OutputQueue) (r : BurstRecord) : o.placeRecord r =
    if (o.items.map fun x => x.bytes.length).sum + (OutItem.record r).bytes.length ≤ 229376 then
      { o with items := o.items ++ [.record { r with flags := { r.flags with truncated := o.dropMark } }]
               dropMark := false }
    else if r.symbols ≠ none ∧ (o.items.map fun x => x.bytes.length).sum +
        (OutItem.record { r with symbols := none }).bytes.length ≤ 229376 then
      { o with items := o.items ++ [.record { r with symbols := none, flags := { r.flags with truncated := true } }]
               dropMark := false }
    else { o with dropMark := true } := by
  unfold OutputQueue.placeRecord
  refine if_congr ?_ rfl (if_congr ?_ rfl rfl)
  · rw [o.bytes_sum, OutItem.bytes_length]; rfl
  · rw [o.bytes_sum, OutItem.bytes_length, Option.isSome_iff_ne_none]; rfl

theorem OutputQueue.placeNotice_eq (o : OutputQueue) (counter : Tick) (e : NoticeEvent) : o.placeNotice counter e =
    if o.notices < 32 ∧ (o.items.map fun x => x.bytes.length).sum + 16 ≤ 262144 then
      { o with items := o.items ++ [.notice ⟨e, o.noticeLoss, counter⟩], noticeLoss := false }
    else { o with noticeLoss := true } := by
  unfold OutputQueue.placeNotice
  dsimp only
  refine if_congr ?_ rfl rfl
  rw [o.bytes_sum, OutItem.notice_size]; rfl

/-! ### The symbol list (R175) -/

/-- The bits of a byte, most significant first. -/
def byteBits (b : Byte) : List Bool := (List.range 8).map fun k => b.getLsbD (7 - k)

theorem byteBits_packed : ∀ a b c d e f g h : Bool,
    byteBits (BitVec.ofNat 8 (bitsNumber [a, b, c, d, e, f, g, h])) = [a, b, c, d, e, f, g, h] := by decide

/-- A list of eight bits is a byte's. -/
theorem byteBits_of_length : ∀ {l : List Bool}, l.length = 8 → byteBits (BitVec.ofNat 8 (bitsNumber l)) = l
  | [a, b, c, d, e, f, g, h], _ => byteBits_packed a b c d e f g h

theorem packBits_short {l : List Bool} (short : l.length < 8) (some_ : l ≠ []) :
    packBits l = [BitVec.ofNat 8 (bitsNumber (l ++ List.replicate (8 - l.length) false))] := by
  unfold packBits
  split
  · simp only [List.length_cons] at short; omega
  · exact absurd rfl some_
  · rfl

/-- The packed bytes hold the bits in order, behind them zero bits up to a whole byte. -/
theorem packBits_bits (l : List Bool) : ∃ pad < 8, (packBits l).flatMap byteBits = l ++ List.replicate pad false := by
  induction l using packBits.induct with
  | case1 a b c d e f g h rest ih =>
    obtain ⟨pad, small, bits⟩ := ih
    refine ⟨pad, small, ?_⟩
    rw [packBits, List.flatMap_cons, byteBits_packed, bits]
    rfl
  | case2 => exact ⟨0, by decide, rfl⟩
  | case3 l long some_ =>
    have short : l.length < 8 := by
      match l, long with
      | [], _ | [_], _ | [_, _], _ | [_, _, _], _ | [_, _, _, _], _ | [_, _, _, _, _], _ | [_, _, _, _, _, _], _
      | [_, _, _, _, _, _, _], _ => simp
      | a :: b :: c :: d :: e :: f :: g :: h :: rest, long => exact absurd rfl (long a b c d e f g h rest)
    refine ⟨8 - l.length, ?_, ?_⟩
    · have := List.length_pos_iff.2 some_
      omega
    · rw [packBits_short short some_, List.flatMap_cons, List.flatMap_nil, List.append_nil]
      exact byteBits_of_length (by simp; omega)

theorem lowBits_eq (n v : Nat) : lowBits n v = (List.range n).map fun k => v.testBit (n - 1 - k) := by
  induction n with
  | zero => rfl
  | succ n ih =>
    rw [lowBits, ih, List.range_succ_eq_map, List.map_cons, List.map_map, Nat.testBit_eq_decide_div_mod_eq]
    refine congrArg₂ List.cons (by simp [beq_eq_decide]) (List.map_congr_left fun k _ => ?_)
    simp only [Function.comp]
    congr 1
    omega

/-- The bits of a symbol list: of each symbol the two indices, each most significant bit first. -/
def listBits (h : Nat) (symbols : Option (List (Nat × Nat))) : List Bool :=
  (symbols.getD []).flatMap fun z => [z.1, z.2].flatMap fun i => (List.range h).map fun k => i.testBit (h - 1 - k)

theorem BurstRecord.listBytes_bits (r : BurstRecord) : ∃ pad < 8,
    r.listBytes.flatMap byteBits = listBits (bitsPerSymbol r.modulation / 2) r.symbols ++ List.replicate pad false := by
  unfold BurstRecord.listBytes listBits
  cases r.symbols with
  | none => exact ⟨0, by decide, rfl⟩
  | some l =>
    obtain ⟨pad, small, bits⟩ := packBits_bits (l.flatMap fun p =>
      lowBits (bitsPerSymbol r.modulation / 2) p.1 ++ lowBits (bitsPerSymbol r.modulation / 2) p.2)
    refine ⟨pad, small, ?_⟩
    dsimp only [packSymbols]
    rw [bits]
    simp only [lowBits_eq, Option.getD_some, List.flatMap_cons, List.flatMap_nil, List.append_nil]

/-! ### Words and coefficients (section 10.6) -/

theorem extractByte_eq {n : Nat} (w : BitVec n) (start : Nat) :
    w.extractLsb' start 8 = BitVec.ofNat 8 (w.toNat / 2 ^ start) := by
  rw [BitVec.extractLsb', Nat.shiftRight_eq_div_pow]

theorem bytes32_eq (w : BitVec 32) : bytes32 w = beBytes 4 w.toNat := by
  simp only [bytes32, beBytes, extractByte_eq, Nat.reducePow]

theorem beSigned_two_toInt (w : BitVec 16) : beSigned 2 w.toInt = [w.extractLsb' 8 8, w.extractLsb' 0 8] := by
  have value : (w.toInt % ((256 ^ 2 : Nat) : Int)).toNat = w.toNat := by
    have := w.isLt
    rw [BitVec.toInt_eq_toNat_cond]
    split <;> omega
  rw [beSigned, value]
  simp only [beBytes, extractByte_eq, Nat.reducePow]

theorem coefBytes_eq (c : Coef) : coefBytes c = beSigned 2 c.re.toInt ++ beSigned 2 c.im.toInt := by
  rw [beSigned_two_toInt, beSigned_two_toInt]; rfl

theorem vectorBytes_eq (v : CoefVector) :
    vectorBytes v = v.toList.flatMap fun c => beSigned 2 c.re.toInt ++ beSigned 2 c.im.toInt :=
  congrArg (v.toList.flatMap ·) (funext coefBytes_eq)

/-! ### The fields of a burst record (section 10.6) -/

section Fields

variable {bit : Bool → Nat} (bits : ∀ b, bit b = if b then 1 else 0)
include bits

theorem bitsValue_cons_bit (b : Bool) (bs : List Bool) : bitsValue (b :: bs) = bit b + 2 * bitsValue bs := by
  rw [bitsValue, bits b]

theorem RecordFlags.value_eq (f : RecordFlags) : f.value =
    bit f.cold + 2 * bit f.guest + 4 * bit f.unbound + 8 * bit f.holdover + 16 * bit f.saturated + 32 * bit f.linked +
      64 * bit f.forwarded + 128 * bit f.overridden + 256 * bit f.recentred + 512 * bit f.biasLimit +
      1024 * bit f.truncated := by
  simp only [RecordFlags.value, bitsValue_cons_bit bits]
  rw [bitsValue]
  ring

theorem BurstRecord.presence_eq (r : BurstRecord) : r.presence =
    bit r.laneSection.isSome + 2 * bit r.measurement.isSome + 4 * bit r.sums.isSome + 8 * bit r.recentre.isSome +
      16 * bit r.symbols.isSome + 32 * bit r.ranging.isSome := by
  simp only [BurstRecord.presence, bitsValue_cons_bit bits]
  rw [bitsValue]
  ring

end Fields

theorem notice_bytes (e : NoticeEvent) (lost : Bool) (counter : Tick) : (OutItem.notice ⟨e, lost, counter⟩).bytes =
    [0x82#8, 0#8, 0#8, 16#8] ++ beBytes 1 e.code ++ [if lost then 1#8 else 0#8] ++ bytes32 counter ++ e.bytes := by
  have length : (Notice.body ⟨e, lost, counter⟩).length + 4 = 16 := OutItem.notice_size ⟨e, lost, counter⟩
  have header : beBytes 2 16 = [0#8, 16#8] := by decide
  rw [OutItem.bytes, OutItem.message, writeMessage, length, header]
  simp only [Notice.body, boolByte, List.append_assoc, List.cons_append, List.nil_append]
  rfl

/-- Settles O55: the placing, then the bytes, field by field. -/
theorem recordsAndNoticesGiveWayWhenFull : Obligations.RecordsAndNoticesGiveWayWhenFull := by
  unfold Obligations.RecordsAndNoticesGiveWayWhenFull
  refine ⟨OutputQueue.placeRecord_eq, OutputQueue.placeNotice_eq, fun r bit bits _ => ?_,
    fun tag kind status fields => ?_, fun e lost counter named naming => ?_⟩
  · obtain ⟨pad, small, packed⟩ := r.listBytes_bits
    refine ⟨r.listBytes, r.body, bitsPerSymbol r.modulation / 2, pad, rfl, ?_, small, packed, ?_⟩
    · cases r.modulation <;> rfl
    · unfold BurstRecord.body BurstRecord.fixedBytes
      rw [RecordFlags.value_eq bits, BurstRecord.presence_eq bits, bytes32_eq, bytes32_eq]
      repeat refine congrArg₂ HAppend.hAppend ?_ ?_
      · rfl
      · rfl
      · cases r.modulation <;> rfl
      · cases r.outcome <;> rfl
      · rfl
      · rcases r.cause with _ | _ | _ | _ | _ | _ <;> rfl
      · rcases r.gate with _ | _ | _ | _ <;> rfl
      · rfl
      · rfl
      · rfl
      · rfl
      · cases r.lane <;> rfl
      · cases r.measurement <;> rfl
      · cases r.sums <;> rfl
      · cases r.recentre <;> rfl
      · cases r.measurement <;> rfl
      · cases r.sums <;> rfl
      · cases r.recentre <;> rfl
      · cases r.recentre <;> rfl
      · cases r.sums <;> rfl
      · cases r.sums <;> rfl
      · rfl
      · cases r.laneSection with
        | none => rfl
        | some y =>
          dsimp only [Option.map_some, Option.getD_some]
          rw [LaneSection.bytes, bytes32_eq, bytes32_eq]
          cases y.profile <;> rfl
      · cases r.ranging with
        | none => rfl
        | some v => exact vectorBytes_eq v
      · rfl
  · cases status <;> rfl
  · cases e with
    | syncRegained t | syncHoldover t | syncLost t =>
      dsimp only
      rw [notice_bytes, ← bytes32_eq, ← bytes32_eq]; rfl
    | timebaseStep d => dsimp only; rw [notice_bytes, ← bytes32_eq]; rfl
    | profileStale p k | profileReverted p k =>
      dsimp only
      rw [notice_bytes, ← bytes32_eq, naming]
      cases k <;> rfl

end Sys2Proof.Machine
end

section
/-! The loss of the input lock (R24, R26, R52): the aborts of its channel, and the heads that fall back without input. -/

namespace Sys2Proof.Machine

variable {u s t : State}

/-! ### Handovers in sequence -/

theorem OutputQueue.placeAll_append (o : OutputQueue) (n : Tick) (hs ks : List Handed) :
    o.placeAll n (hs ++ ks) = (o.placeAll n hs).placeAll n ks := by
  simp only [OutputQueue.placeAll, List.foldl_append]

@[simp] theorem OutputQueue.placeAll_laneless (o : OutputQueue) (n : Tick) (r : BurstRecord) (hs : List Handed) :
    o.placeAll n (.laneless r :: hs) = (o.placeRecord r).placeAll n hs := by
  simp only [OutputQueue.placeAll, List.foldl_cons, OutputQueue.placeHanded]

theorem abortedOf_append (hs ks : List Handed) : abortedOf (hs ++ ks) = abortedOf hs ++ abortedOf ks := List.filterMap_append

theorem lanelessOf_append (hs ks : List Handed) : lanelessOf (hs ++ ks) = lanelessOf hs ++ lanelessOf ks :=
  List.filterMap_append

/-- What a record of a grant that took no lane says of the grant. -/
def BurstRecord.report (r : BurstRecord) : Fin 6 × Nat × Tick × BurstOutcome × Option (Fin 12) :=
  (r.channel, r.station, r.start, r.outcome, r.lane)

/-- What the loss of the lock does to its channel, but for the lanes (R24, R26, R52). -/
structure State.LosesInput (s t : State) (ch : Fin 6) (hs : List Handed) : Prop where
  output : t.output = s.output.placeAll s.counter hs
  noNotice : ∀ e, Handed.notice e ∉ hs
  drained : ∃ gs : List Grant, (s.queue ch).map (·.grant) = gs ++ (t.queue ch).map (·.grant) ∧
    (lanelessOf hs).map BurstRecord.report = gs.map fun g => (ch, g.station, g.start, .noInput, none)
  still : lanelessOf hs = [] → t.queue ch = s.queue ch
  others : ∀ k, k ≠ ch → t.chan k = s.chan k
  frame : Frame s t
  settles : (t.chan ch).state = (s.chan ch).state ∨ ((s.chan ch).state = .stopping ∧ (t.chan ch).state = .ready)

theorem State.LosesInput.refl (s : State) (ch : Fin 6) : s.LosesInput s ch [] :=
  ⟨rfl, fun _ => List.not_mem_nil, ⟨[], rfl, rfl⟩, fun _ => rfl, fun _ _ => rfl, Frame.rfl s, .inl rfl⟩

theorem State.LosesInput.trans {ch : Fin 6} {hs ks : List Handed} (first : s.LosesInput t ch hs)
    (rest : t.LosesInput u ch ks) : s.LosesInput u ch (hs ++ ks) where
  output := by
    have counter : t.counter = s.counter := congrArg Timebase.counter first.frame.timebase
    rw [rest.output, first.output, counter, OutputQueue.placeAll_append]
  noNotice e mem := (List.mem_append.1 mem).elim (first.noNotice e) (rest.noNotice e)
  drained := by
    obtain ⟨gs, queue, reports⟩ := first.drained
    obtain ⟨fs, queue', reports'⟩ := rest.drained
    refine ⟨gs ++ fs, by rw [queue, queue', List.append_assoc], ?_⟩
    rw [lanelessOf_append, List.map_append, List.map_append, reports, reports']
  still none_ := by
    rw [lanelessOf_append, List.append_eq_nil_iff] at none_
    exact (rest.still none_.2).trans (first.still none_.1)
  others k ne := (rest.others k ne).trans (first.others k ne)
  frame := first.frame.trans rest.frame
  settles := by
    rcases rest.settles with same | ⟨stopping, ready⟩
    · rw [same]; exact first.settles
    · rcases first.settles with same' | ⟨-, ready'⟩
      · exact .inr ⟨same' ▸ stopping, ready⟩
      · rw [ready'] at stopping; cases stopping

/-! ### Heads without input (R26, R51, R52) -/

/-- A head that arms while the lock is LOST falls to its record. -/
theorem State.armHead_lost {pool : List (Fin 12)} {ch : Fin 6} {g : QueuedGrant} {rest : List QueuedGrant}
    (waits : s.queue ch = g :: rest) (lost : (s.chan ch).lock = .lost) :
    (s.armHead pool ch).1 =
      (s.setQueue ch (behindHead g rest)).setOutput (s.output.placeRecord (s.headRecord ch g .noInput)) := by
  have lost' : ((s.setQueue ch rest).chan ch).lock = .lost := by rw [State.setQueue_chan, if_pos rfl]; exact lost
  unfold State.armHead State.armGrant
  rw [waits]
  dsimp only
  rw [if_pos lost', State.leaveWithoutLane_head, State.headRecord_eq]
  cases rest with
  | nil => rfl
  | cons h hs => rfl

theorem State.LosesInput.lost {ch : Fin 6} {hs : List Handed} (loses : s.LosesInput t ch hs)
    (lost : (s.chan ch).lock = .lost) : (t.chan ch).lock = .lost := by
  rw [loses.frame.chan ch]; exact lost

/-- Heads of a channel leave it with NO_INPUT, and no lane or profile changes. -/
structure State.HeadsLeave (s t : State) (ch : Fin 6) (hs : List Handed) : Prop where
  loses : s.LosesInput t ch hs
  lanes : t.lanes = s.lanes
  profiles : t.profiles = s.profiles
  laneless : abortedOf hs = []

theorem State.HeadsLeave.refl (s : State) (ch : Fin 6) : s.HeadsLeave s ch [] := ⟨.refl s ch, rfl, rfl, rfl⟩

theorem State.HeadsLeave.trans {ch : Fin 6} {hs ks : List Handed} (first : s.HeadsLeave t ch hs)
    (rest : t.HeadsLeave u ch ks) : s.HeadsLeave u ch (hs ++ ks) :=
  ⟨first.loses.trans rest.loses, rest.lanes.trans first.lanes, rest.profiles.trans first.profiles, by
    rw [abortedOf_append, first.laneless, rest.laneless]; rfl⟩

theorem behindHead_grants (g : QueuedGrant) (rest : List QueuedGrant) :
    (behindHead g rest).map (·.grant) = rest.map (·.grant) := by
  cases rest with
  | nil => rfl
  | cons h hs => cases chain : g.grant.chain <;> simp [behindHead, chain]

theorem State.armHead_leaves (pool : List (Fin 12)) {ch : Fin 6} (lost : (s.chan ch).lock = .lost) :
    ∃ hs, s.HeadsLeave (s.armHead pool ch).1 ch hs ∧ (s.queue ch ≠ [] → lanelessOf hs ≠ []) := by
  cases waits : s.queue ch with
  | nil =>
    have same : (s.armHead pool ch).1 = s := by unfold State.armHead; rw [waits]
    exact ⟨[], by rw [same]; exact .refl s ch, fun some_ => absurd rfl some_⟩
  | cons g rest =>
    refine ⟨[.laneless (s.headRecord ch g .noInput)], ?_, fun _ => List.cons_ne_nil _ _⟩
    rw [State.armHead_lost waits lost]
    have queue : ((s.setQueue ch (behindHead g rest)).setOutput
        (s.output.placeRecord (s.headRecord ch g .noInput))).queue ch = behindHead g rest := by
      rw [State.setOutput_queue, State.setQueue_queue, if_pos rfl]
    refine ⟨⟨?_, by simp, ⟨[g.grant], ?_, ?_⟩, fun e => absurd e (List.cons_ne_nil _ _), fun k ne => ?_, ?_, .inl ?_⟩, rfl, rfl, rfl⟩
    · rw [State.setOutput_output, OutputQueue.placeAll_laneless, OutputQueue.placeAll_nil]
    · rw [queue, waits, behindHead_grants]; rfl
    · rw [State.headRecord_eq]; rfl
    · rw [State.setOutput_chan, State.setQueue_chan, if_neg ne.symm]
    · generalize s.output.placeRecord _ = o
      refine ⟨rfl, rfl, rfl, rfl, rfl, rfl, rfl, fun k => ?_⟩
      rw [State.setOutput_queue, State.setOutput_chan, State.setQueue_queue, State.setQueue_chan]
      split
      · rename_i e; subst e; rfl
      · rfl
    · rw [State.setOutput_chan, State.setQueue_chan, if_pos rfl]

theorem armRun_leaves (pool : List (Fin 12)) (ch : Fin 6) : ∀ (n : Nat) (s : State), (s.chan ch).lock = .lost →
    ∃ hs, s.HeadsLeave (armRun pool ch n s) ch hs
  | 0, s, _ => ⟨[], .refl s ch⟩
  | n + 1, s, lost => by
    unfold armRun
    split
    · obtain ⟨hs, first, -⟩ := State.armHead_leaves pool lost
      obtain ⟨ks, rest⟩ := armRun_leaves pool ch n _ (first.loses.lost lost)
      exact ⟨_, first.trans rest⟩
    · exact ⟨[], .refl s ch⟩

theorem brokenRun_leaves (ch : Fin 6) : ∀ (n : Nat) (r : State × Bool), (r.1.chan ch).lock = .lost →
    ∃ hs, r.1.HeadsLeave (brokenRun ch n r) ch hs
  | 0, r, _ => ⟨[], .refl r.1 ch⟩
  | n + 1, r, lost => by
    unfold brokenRun
    split
    · obtain ⟨hs, first, -⟩ := State.armHead_leaves laneIds lost
      obtain ⟨ks, rest⟩ := brokenRun_leaves ch n _ (first.loses.lost lost)
      exact ⟨_, first.trans rest⟩
    · exact ⟨[], .refl r.1 ch⟩

/-- The fallback of a channel whose lock is LOST: at least its head leaves (R26, R52). -/
theorem State.fallback_leaves {ch : Fin 6} (b : Bool) (lost : (s.chan ch).lock = .lost) :
    ∃ hs, s.HeadsLeave (s.fallback ch b) ch hs ∧ (s.queue ch ≠ [] → lanelessOf hs ≠ []) := by
  obtain ⟨hs, first, head⟩ := State.armHead_leaves laneIds lost
  obtain ⟨ks, broken⟩ := brokenRun_leaves ch (s.queue ch).length (s.armHead laneIds ch) (first.loses.lost lost)
  have leaves := first.trans broken
  have left (js : List Handed) (waits : s.queue ch ≠ []) : lanelessOf (hs ++ js) ≠ [] := by
    rw [lanelessOf_append]
    exact fun e => head waits (List.append_eq_nil_iff.1 e).1
  unfold State.fallback
  cases b with
  | true => exact ⟨_, leaves, left ks⟩
  | false =>
    obtain ⟨js, run⟩ := armRun_leaves laneIds ch _ _ (leaves.loses.lost lost)
    exact ⟨_, leaves.trans run, List.append_assoc hs ks js ▸ left (ks ++ js)⟩

/-! ### The abort of one lane without input (R26, R75) -/

/-- What the loss of the lock does to the lanes `ls` of its channel, each as it stood at the start (R24, R77). -/
structure State.LosesLanes (s t : State) (ch : Fin 6) (ls : List (Fin 12)) (hs : List Handed) : Prop where
  loses : s.LosesInput t ch hs
  lanes : (abortedOf hs).map (·.1) = ls.filter s.emitsAtAbort
  handed : ∀ a ∈ abortedOf hs, s.HandsOver .inputLost a.1 a.2
  freed : ∀ l ∈ ls, (t.lane l).state = .free
  kept : ∀ k, k ∉ ls → (t.lane k).SameHandover (s.lane k)
  still : (∀ l ∈ ls, s.headFollows l = false) → lanelessOf hs = []
  falls : ∀ l ∈ ls, s.headFollows l = true → lanelessOf hs ≠ []

theorem State.LosesLanes.refl (s : State) (ch : Fin 6) : s.LosesLanes s ch [] [] :=
  ⟨.refl s ch, rfl, fun _ mem => absurd mem List.not_mem_nil, fun _ mem => absurd mem List.not_mem_nil, fun _ _ => .refl _,
    fun _ => rfl, fun _ mem => absurd mem List.not_mem_nil⟩

theorem State.vacate_loses (s : State) (l : Fin 12) (ch : Fin 6) :
    s.LosesInput (s.vacate l .inputLost) ch ((s.abortHands l .inputLost).toList.map (.aborted l)) where
  output := by
    rw [State.vacate_output]
    cases s.abortHands l .inputLost with
    | none => rfl
    | some r => rw [OutputQueue.placeAny_some, Option.toList_some, List.map_singleton, OutputQueue.placeAll_aborted,
        OutputQueue.placeAll_nil]
  noNotice e mem := by obtain ⟨r, -, no⟩ := List.mem_map.1 mem; cases no
  drained := by
    refine ⟨[], by rw [State.vacate_queue]; rfl, ?_⟩
    cases s.abortHands l .inputLost <;> rfl
  still _ := State.vacate_queue ..
  others k _ := State.vacate_chan ..
  frame := s.vacate_frame l _
  settles := .inl (by rw [State.vacate_chan])

theorem State.settle_loses (s : State) (ch : Fin 6) : s.LosesInput (s.settle ch) ch [] where
  output := State.settle_output ..
  noNotice _ := List.not_mem_nil
  drained := ⟨[], by rw [State.settle_queue]; rfl, rfl⟩
  still _ := State.settle_queue ..
  others k ne := by rw [State.settle_eq, State.setChan_chan, if_neg ne.symm]
  frame := by
    unfold State.settle
    split
    · refine ⟨rfl, rfl, rfl, rfl, rfl, rfl, rfl, fun k => ?_⟩
      rw [State.setChanState_queue]
      unfold State.setChanState
      rw [State.setChan_chan]
      split
      · rename_i e; subst e; rfl
      · rfl
    · exact Frame.rfl s
  settles := by
    unfold State.settle
    split
    · rename_i empties
      exact .inr ⟨empties.1, by simp⟩
    · exact .inl rfl

/-- The heads that leave when a lane without input is vacated (R52). -/
theorem State.abortLane_leaves {l : Fin 12} (lost : (s.chan (s.lane l).channel).lock = .lost) :
    ∃ v hs, (s.vacate l .inputLost).HeadsLeave v (s.lane l).channel hs ∧
      ((s.lane l).state ≠ .free → State.abortLane .inputLost false s l = v.settle (s.lane l).channel) ∧
      (if s.headFollows l then lanelessOf hs ≠ [] else hs = []) := by
  have lost' : ((s.vacate l .inputLost).chan (s.lane l).channel).lock = .lost := by rwa [State.vacate_chan]
  have cause : (AbortCause.inputLost == AbortCause.timebaseStep || AbortCause.inputLost == AbortCause.inputLost) = true := rfl
  cases follows : s.headFollows l with
  | false =>
    exact ⟨_, [], .refl _ _, fun busy => by rw [State.abortLane_eq _ _ _ busy, follows]; rfl, rfl⟩
  | true =>
    obtain ⟨hs, leaves, head⟩ := State.fallback_leaves false lost'
    obtain ⟨g, rest, waits⟩ := State.waits_of_headFollows follows
    refine ⟨_, hs, leaves, fun busy => ?_, ?_⟩
    · rw [State.abortLane_eq _ _ _ busy, follows, cause, Bool.and_self, if_pos rfl]
    · rw [if_pos rfl]
      refine head ?_
      rw [State.vacate_queue, waits]
      exact List.cons_ne_nil _ _

theorem State.abortLane_loses {l : Fin 12} (busy : (s.lane l).state ≠ .free)
    (lost : (s.chan (s.lane l).channel).lock = .lost) :
    ∃ hs, s.LosesLanes (State.abortLane .inputLost false s l) (s.lane l).channel [l] hs := by
  obtain ⟨v, hs, leaves, aborted, follows⟩ := State.abortLane_leaves lost
  rw [aborted busy]
  have vacated := s.vacate_loses l (s.lane l).channel
  have emits := State.abortHands_isSome (c := .inputLost) busy
  have own : abortedOf ((s.abortHands l .inputLost).toList.map (.aborted l) ++ hs ++ []) =
      (s.abortHands l .inputLost).toList.map (l, ·) := by
    rw [List.append_nil, abortedOf_append, leaves.laneless, List.append_nil]
    cases s.abortHands l .inputLost <;> rfl
  have heads : lanelessOf ((s.abortHands l .inputLost).toList.map (.aborted l) ++ hs ++ []) = lanelessOf hs := by
    rw [List.append_nil, lanelessOf_append]
    cases s.abortHands l .inputLost <;> rfl
  have lane (k : Fin 12) : (v.settle (s.lane l).channel).lane k = (s.vacate l .inputLost).lane k := by
    rw [State.settle_lane, State.lane, leaves.lanes]; rfl
  refine ⟨_, (vacated.trans leaves.loses).trans (State.settle_loses _ _), ?_, fun a mem => ?_, fun k mem => ?_,
    fun k out => ?_, fun none_ => ?_, fun k mem some_ => ?_⟩
  · rw [own]
    cases hands : s.abortHands l .inputLost with
    | none => rw [hands] at emits; simp [← emits]
    | some r => rw [hands] at emits; simp [← emits]
  · rw [own] at mem
    obtain ⟨r, found, rfl⟩ := List.mem_map.1 mem
    exact State.abortHands_handsOver (Option.mem_toList.1 found)
  · obtain rfl := List.mem_singleton.1 mem
    rw [lane]; exact s.vacate_lane_state _ _
  · rw [lane]
    exact s.vacate_handover _ fun e => out (e ▸ List.mem_singleton_self _)
  · rw [none_ l List.mem_cons_self, if_neg Bool.false_ne_true] at follows
    rw [heads, follows]; rfl
  · obtain rfl := List.mem_singleton.1 mem
    rw [some_, if_pos rfl] at follows
    rwa [heads]

/-! ### The aborts of one channel (R24, R77) -/

theorem State.headFollows_congr {l : Fin 12} (same : (t.lane l).SameHandover (s.lane l))
    (queue : t.queue (s.lane l).channel = s.queue (s.lane l).channel) : t.headFollows l = s.headFollows l := by
  obtain ⟨state, grant, channel, -, -⟩ := same.service
  unfold State.headFollows Lane.precedes
  rw [state, grant, channel, queue]

theorem State.LosesLanes.cons {ch : Fin 6} {l : Fin 12} {ls : List (Fin 12)} {hs ks : List Handed}
    (first : s.LosesLanes t ch [l] hs) (rest : t.LosesLanes u ch ls ks) (fresh : l ∉ ls)
    (own : ∀ k ∈ ls, (s.lane k).channel = ch) : s.LosesLanes u ch (l :: ls) (hs ++ ks) := by
  have same {k : Fin 12} (mem : k ∈ ls) : (t.lane k).SameHandover (s.lane k) :=
    first.kept k fun e => fresh (List.mem_singleton.1 e ▸ mem)
  have disposition (k : Fin 6) : (t.chan k).disposition = (s.chan k).disposition := by rw [first.loses.frame.chan k]
  have counter : t.counter = s.counter := congrArg Timebase.counter first.loses.frame.timebase
  have follows {k : Fin 12} (mem : k ∈ ls) (none_ : lanelessOf hs = []) : t.headFollows k = s.headFollows k :=
    State.headFollows_congr (same mem) (by rw [own k mem]; exact first.loses.still none_)
  refine ⟨first.loses.trans rest.loses, ?_, fun a mem => ?_, fun k mem => ?_, fun k out => ?_, fun none_ => ?_,
    fun k mem some_ => ?_⟩
  · rw [abortedOf_append, List.map_append, first.lanes, rest.lanes, ← List.singleton_append (l := ls), List.filter_append]
    exact congrArg _ (List.filter_congr fun k mem => State.emitsAtAbort_congr (same mem) (disposition _))
  · rw [abortedOf_append] at mem
    rcases List.mem_append.1 mem with mem | mem
    · exact first.handed a mem
    · have listed : a.1 ∈ ls.filter t.emitsAtAbort := rest.lanes ▸ List.mem_map_of_mem mem
      exact (rest.handed a mem).congr (same (List.mem_filter.1 listed).1) (disposition _) counter
  · rcases List.mem_cons.1 mem with rfl | mem
    · rw [(rest.kept k fresh).state]; exact first.freed k List.mem_cons_self
    · exact rest.freed k mem
  · rw [List.mem_cons, not_or] at out
    exact (rest.kept k out.2).trans (first.kept k fun e => out.1 (List.mem_singleton.1 e))
  · have head := first.still fun k mem => none_ k (List.mem_cons.2 (.inl (List.mem_singleton.1 mem)))
    rw [lanelessOf_append, head]
    exact rest.still fun k mem => (follows mem head).trans (none_ k (List.mem_cons_of_mem _ mem))
  · rw [lanelessOf_append]
    intro none_
    obtain ⟨head, tail⟩ := List.append_eq_nil_iff.1 none_
    rcases List.mem_cons.1 mem with rfl | mem
    · exact first.falls k List.mem_cons_self some_ head
    · exact rest.falls k mem ((follows mem head).trans some_) tail

/-- The aborts of one channel's lanes while its lock is LOST. -/
theorem State.abortLanes_lose {ch : Fin 6} : ∀ (ls : List (Fin 12)) (s : State), ls.Nodup →
    (∀ l ∈ ls, s.serves l ch = true) → (s.chan ch).lock = .lost →
    ∃ hs, s.LosesLanes (s.abortLanes .inputLost false ls) ch ls hs
  | [], s, _, _, _ => ⟨[], .refl s ch⟩
  | l :: ls, s, distinct, serve, lost => by
    obtain ⟨fresh, distinct⟩ := List.nodup_cons.1 distinct
    obtain ⟨busy, rfl⟩ := State.serves_iff.1 (serve l List.mem_cons_self)
    obtain ⟨hs, first⟩ := State.abortLane_loses busy lost
    have serves {k : Fin 12} (mem : k ∈ ls) := State.serves_iff.1 (serve k (List.mem_cons_of_mem _ mem))
    obtain ⟨ks, rest⟩ := State.abortLanes_lose ls (State.abortLane .inputLost false s l) distinct (fun k mem => by
      have same := first.kept k fun e => fresh (List.mem_singleton.1 e ▸ mem)
      rw [State.serves_iff, same.state, same.channel]
      exact serves mem) (first.loses.lost lost)
    exact ⟨_, first.cons rest fresh fun k mem => (serves mem).2⟩

/-! ### The claimant of an aborted holder (R154, R157) -/

section Claimants

variable {v : NodeSettings} {n : Nat} {p : Fin 384} {l m : Fin 12}

/-- A claimant as the holder it becomes (R150, R157). -/
def Lane.heir (x : Lane) (p : Fin 384) (q : Profile) : Lane := { x with
  role := .holder p
  vec := if x.grant.grant.ranging = false ∧ q.state = .bound then q.current else defaultVector
  bias := if x.grant.grant.ranging = false ∧ q.state = .bound then q.bias else 0
  cold := !decide (x.grant.grant.ranging = false ∧ q.state = .bound) }

/-- A profile that its holder has left to its claimant. -/
def Profile.heldBy (q : Profile) (m : Fin 12) : Profile := { q with holder := some m, claim := none, overridden := false }

theorem State.abortLane_lane (busy : (s.lane l).state ≠ .free) (lost : (s.chan (s.lane l).channel).lock = .lost)
    (k : Fin 12) : (State.abortLane .inputLost false s l).lane k = (s.vacate l .inputLost).lane k := by
  obtain ⟨w, _, leaves, aborted, -⟩ := State.abortLane_leaves lost
  rw [aborted busy, State.settle_lane, State.lane, leaves.lanes]; rfl

theorem State.abortLane_prof (busy : (s.lane l).state ≠ .free) (lost : (s.chan (s.lane l).channel).lock = .lost)
    (q : Fin 384) : (State.abortLane .inputLost false s l).prof q = (s.vacate l .inputLost).prof q := by
  obtain ⟨w, _, leaves, aborted, -⟩ := State.abortLane_leaves lost
  rw [aborted busy, State.settle_eq, State.setChan_prof, State.prof, leaves.profiles]; rfl

/-- An abort leaves a profile that the lane neither holds nor claims, and the lanes that do. -/
theorem State.vacate_spares (h : s.Stations v n none) (holder : (s.prof p).holder ≠ some l)
    (claim : (s.prof p).claim ≠ some l) (about : (s.prof p).holder = some m ∨ (s.prof p).claim = some m) :
    (s.vacate l .inputLost).prof p = s.prof p ∧ (s.vacate l .inputLost).lane m = s.lane m := by
  have ne : l ≠ m := by rintro rfl; exact about.elim holder claim
  have lane : ((s.setOutput (s.output.placeAny (s.abortHands l .inputLost))).setLane l Lane.idle).lane m = s.lane m := by
    rw [State.setLane_lane, if_neg ne, State.setOutput_lane]
  have unheld (q : Fin 384) (e : (s.prof q).claim = some m) : q = p ∨ (s.prof p).claim ≠ some m := by
    by_cases own : (s.prof p).claim = some m
    · have roles := ((h.staffed q).claim m).2 e
      rw [((h.staffed p).claim m).2 own] at roles
      exact .inl (Role.claim.inj roles).symm
    · exact .inr own
  unfold State.vacate
  cases role : (s.lane l).role with
  | none | guest q | coldGuest q => exact ⟨rfl, lane⟩
  | holder q =>
    have other : q ≠ p := by rintro rfl; exact holder (((h.staffed q).holder l).1 role)
    have unclaimed : (s.prof q).claim ≠ some m := fun e => by
      have claims := ((h.staffed q).claim m).2 e
      rcases about with held | claimed
      · rw [((h.staffed p).holder m).2 held] at claims; cases claims
      · exact (unheld q e).elim other fun no => no claimed
    refine ⟨?_, ?_⟩
    · rw [State.releaseRole, State.releaseHolder_prof, if_neg other]; rfl
    · rw [State.releaseRole, State.releaseHolder_lane_other (by exact unclaimed), lane]
  | claim q =>
    have other : q ≠ p := by rintro rfl; exact claim (((h.staffed q).claim l).1 role)
    refine ⟨?_, ?_⟩
    · rw [State.releaseRole, State.dropClaim_prof, if_neg other]; rfl
    · rw [State.releaseRole, State.dropClaim_lane, lane]

/-- The release of a holder makes its claimant holder (R157). -/
theorem State.releaseHolder_handsOn (claimed : (s.prof p).claim = some m) (stays : (s.prof p).state ≠ .retiring) :
    (s.releaseHolder p).prof p = (s.prof p).heldBy m ∧ (s.releaseHolder p).lane m = (s.lane m).heir p (s.prof p) := by
  rw [State.releaseHolder_claimed claimed stays]
  exact ⟨by simp [State.prof, Profile.heldBy], by simp [State.lane, Lane.heir]⟩

/-- The claimant becomes holder when the holder is aborted (R157). -/
theorem State.abortLane_handsOn (h : s.Stations v n none) (busy : (s.lane l).state ≠ .free)
    (lost : (s.chan (s.lane l).channel).lock = .lost) (holds : (s.prof p).holder = some l)
    (claimed : (s.prof p).claim = some m) (stays : (s.prof p).state ≠ .retiring) :
    (State.abortLane .inputLost false s l).prof p = (s.prof p).heldBy m ∧
      (State.abortLane .inputLost false s l).lane m = (s.lane m).heir p (s.prof p) := by
  have role : (s.lane l).role = .holder p := ((h.staffed p).holder l).2 holds
  have ne : l ≠ m := by
    rintro rfl
    rw [((h.staffed p).claim l).2 claimed] at role
    cases role
  rw [State.abortLane_prof busy lost, State.abortLane_lane busy lost, State.vacate, role, State.releaseRole]
  have lane : ((s.setOutput (s.output.placeAny (s.abortHands l .inputLost))).setLane l Lane.idle).lane m = s.lane m := by
    rw [State.setLane_lane, if_neg ne, State.setOutput_lane]
  have prof : ((s.setOutput (s.output.placeAny (s.abortHands l .inputLost))).setLane l Lane.idle).prof p = s.prof p := rfl
  generalize (s.setOutput (s.output.placeAny (s.abortHands l .inputLost))).setLane l Lane.idle = w at lane prof ⊢
  rw [← prof] at claimed stays ⊢
  rw [← lane]
  exact State.releaseHolder_handsOn claimed stays

/-- Aborts that leave a profile's holder and claimant leave the profile and both. -/
theorem State.abortLanes_spare {ch : Fin 6} : ∀ (ls : List (Fin 12)) (s : State), s.Stations v n none → ls.Nodup →
    (∀ l ∈ ls, s.serves l ch = true) → (s.chan ch).lock = .lost →
    (∀ l ∈ ls, (s.prof p).holder ≠ some l ∧ (s.prof p).claim ≠ some l) →
    ((s.prof p).holder = some m ∨ (s.prof p).claim = some m) →
    (s.abortLanes .inputLost false ls).prof p = s.prof p ∧ (s.abortLanes .inputLost false ls).lane m = s.lane m
  | [], _, _, _, _, _, _, _ => ⟨rfl, rfl⟩
  | l :: ls, s, h, distinct, serve, lost, apart, about => by
    obtain ⟨fresh, distinct⟩ := List.nodup_cons.1 distinct
    obtain ⟨busy, rfl⟩ := State.serves_iff.1 (serve l List.mem_cons_self)
    obtain ⟨_, first⟩ := State.abortLane_loses busy lost
    obtain ⟨notHolder, notClaim⟩ := apart l List.mem_cons_self
    obtain ⟨prof, lane⟩ := s.vacate_spares h notHolder notClaim about
    rw [← State.abortLane_prof busy lost] at prof
    rw [← State.abortLane_lane busy lost] at lane
    obtain ⟨prof', lane'⟩ := State.abortLanes_spare ls (State.abortLane .inputLost false s l)
      (State.abortLane_stations _ _ h l) distinct (fun k mem => by
        have same := first.kept k fun e => fresh (List.mem_singleton.1 e ▸ mem)
        have serves := State.serves_iff.1 (serve k (List.mem_cons_of_mem _ mem))
        rw [State.serves_iff, same.state, same.channel]
        exact serves) (first.loses.lost lost)
      (fun k mem => prof ▸ apart k (List.mem_cons_of_mem _ mem)) (prof ▸ about)
    exact ⟨prof'.trans prof, lane'.trans lane⟩

/-- The claimant of an aborted holder becomes holder, and stays it (R157). -/
theorem State.abortLanes_handOn {ch : Fin 6} {ls : List (Fin 12)} (h : s.Stations v n none) (distinct : ls.Nodup)
    (serve : ∀ k ∈ ls, s.serves k ch = true) (lost : (s.chan ch).lock = .lost) (mem : l ∈ ls) (waits : m ∉ ls)
    (holds : (s.prof p).holder = some l) (claimed : (s.prof p).claim = some m) (stays : (s.prof p).state ≠ .retiring) :
    (s.abortLanes .inputLost false ls).prof p = (s.prof p).heldBy m ∧
      (s.abortLanes .inputLost false ls).lane m = (s.lane m).heir p (s.prof p) := by
  obtain ⟨before, after, rfl⟩ := List.append_of_mem mem
  rw [List.nodup_append, List.nodup_cons] at distinct
  obtain ⟨distinctBefore, ⟨fresh, distinctAfter⟩, apart⟩ := distinct
  have serves {k : Fin 12} (mem : k ∈ before ++ l :: after) := State.serves_iff.1 (serve k mem)
  obtain ⟨_, first⟩ := State.abortLanes_lose before s distinctBefore
    (fun k mem => serve k (List.mem_append_left _ mem)) lost
  have early {k : Fin 12} (mem : k ∈ before) : (s.prof p).holder ≠ some k ∧ (s.prof p).claim ≠ some k := by
    rw [holds, claimed]
    refine ⟨fun e => apart k mem l List.mem_cons_self (Option.some.inj e).symm, fun e => waits ?_⟩
    obtain rfl := Option.some.inj e
    exact List.mem_append_left _ mem
  obtain ⟨prof, lane⟩ := State.abortLanes_spare (p := p) (m := m) before s h distinctBefore
    (fun k mem => serve k (List.mem_append_left _ mem)) lost (fun k mem => early mem) (.inr claimed)
  have stations := h.abortLanes .inputLost false before
  have split : s.abortLanes .inputLost false (before ++ l :: after) =
      State.abortLanes (State.abortLane .inputLost false (s.abortLanes .inputLost false before) l) .inputLost false after :=
    List.foldl_append
  have same {k : Fin 12} (out : k ∉ before) := first.kept k out
  have lost' := first.loses.lost lost
  rw [split]
  generalize s.abortLanes .inputLost false before = w at *
  have notBefore {k : Fin 12} (mem : k ∈ l :: after) : k ∉ before := fun e => apart k e k mem rfl
  have own : (w.lane l).state ≠ .free ∧ (w.lane l).channel = ch := by
    have sameL := same (notBefore List.mem_cons_self)
    rw [sameL.state, sameL.channel]
    exact serves (List.mem_append_right _ List.mem_cons_self)
  obtain ⟨busy, rfl⟩ := own
  rw [← prof] at holds claimed stays ⊢
  rw [← lane]
  obtain ⟨passed, heir⟩ := State.abortLane_handsOn stations busy lost' holds claimed stays
  obtain ⟨_, own⟩ := State.abortLane_loses busy lost'
  obtain ⟨prof', lane'⟩ := State.abortLanes_spare (p := p) (m := m) after (State.abortLane .inputLost false w l)
    (State.abortLane_stations _ _ stations l) distinctAfter (fun k mem => by
      have kept := own.kept k fun e => fresh (List.mem_singleton.1 e ▸ mem)
      have before' := same (notBefore (List.mem_cons_of_mem _ mem))
      rw [State.serves_iff, kept.state, kept.channel, before'.state, before'.channel]
      exact serves (List.mem_append_right _ (List.mem_cons_of_mem _ mem))) (own.loses.lost lost')
    (fun k mem => by
      rw [passed]
      refine ⟨fun e => waits ?_, fun e => by cases e⟩
      obtain rfl := Option.some.inj e
      exact List.mem_append_right _ (List.mem_cons_of_mem _ mem)) (.inl (by rw [passed]; rfl))
  exact ⟨prof'.trans passed, lane'.trans heir⟩

end Claimants

/-! ### INPUT_LOCK_LOST (R24) -/

/-- The lanes that the loss of the lock aborts (R24). -/
def State.inputLanes (s : State) (ch : Fin 6) : List (Fin 12) :=
  (s.lanesOf ch).filter fun l =>
    (s.lane l).state == .searching || (s.lane l).state == .training || (s.lane l).state == .tracking

theorem State.mem_inputLanes {ch : Fin 6} {l : Fin 12} : l ∈ s.inputLanes ch ↔ s.serves l ch = true ∧
    ((s.lane l).state = .searching ∨ (s.lane l).state = .training ∨ (s.lane l).state = .tracking) := by
  simp [State.inputLanes, State.mem_lanesOf, or_assoc]

/-- The channel's lock goes LOST. -/
def State.loseLock (s : State) (ch : Fin 6) : State := s.setChan ch { s.chan ch with lock := .lost }

theorem exec_inputLockLost {ch : Fin 6} (running : s.resetHeld = false) :
    exec (.inputLockLost ch) s = .next ((s.loseLock ch).abortLanes .inputLost false (s.inputLanes ch)) := by
  show execInputLockLost ch s = _
  rw [execInputLockLost, State.unlessReset_running _ _ (by exact running)]
  rfl

theorem exec_inputLockLocked {ch : Fin 6} :
    exec (.inputLockLocked ch) s = .next { s with channels := s.channels.set ch { s.chan ch with lock := .locked } } := rfl

theorem State.loseLock_chan {ch k : Fin 6} (ne : k ≠ ch) : (s.loseLock ch).chan k = s.chan k := by
  rw [State.loseLock, State.setChan_chan, if_neg ne.symm]

theorem State.loseLock_chan_self (ch : Fin 6) : (s.loseLock ch).chan ch = { s.chan ch with lock := .lost } := by
  rw [State.loseLock, State.setChan_chan, if_pos rfl]

theorem State.loseLock_queue (ch k : Fin 6) : (s.loseLock ch).queue k = s.queue k := by
  unfold State.queue
  by_cases own : k = ch
  · subst own; rw [State.loseLock_chan_self]
  · rw [State.loseLock_chan own]

theorem State.loseLock_headFollows (s : State) (ch : Fin 6) (l : Fin 12) : (s.loseLock ch).headFollows l = s.headFollows l :=
  State.headFollows_congr (.refl _) (State.loseLock_queue ch _)

/-- The lanes without input that hand over a record. -/
theorem State.inputLanes_emitting (s : State) (ch : Fin 6) : (s.inputLanes ch).filter (s.loseLock ch).emitsAtAbort =
    (List.finRange 12).filter fun l => s.serves l ch &&
      ((s.lane l).state == .searching || (s.lane l).state == .training || (s.lane l).state == .tracking) &&
      (s.chan ch).disposition != .silent := by
  rw [State.inputLanes, State.lanesOf, List.filter_filter, List.filter_filter, laneIds_eq]
  refine List.filter_congr fun l _ => ?_
  cases serves : s.serves l ch with
  | false => simp
  | true =>
    obtain ⟨-, rfl⟩ := State.serves_iff.1 serves
    rw [State.emitsAtAbort, show (s.loseLock (s.lane l).channel).lane l = s.lane l from rfl, State.loseLock_chan_self]
    have notClosing : (LaneState.closing == .searching || LaneState.closing == .training || LaneState.closing == .tracking) =
        false := rfl
    cases state : (s.lane l).state <;> simp [Lane.abortEmits, state, Bool.and_comm, notClosing]

/-- The heads that left, counted by their records (R52). -/
theorem State.LosesInput.heads {ch : Fin 6} {hs : List Handed} (loses : s.LosesInput t ch hs) :
    (lanelessOf hs).map (fun r => (r.channel, r.station, r.start, r.outcome, r.lane)) =
        ((s.queue ch).take (lanelessOf hs).length).map
          (fun g => (ch, g.grant.station, g.grant.start, BurstOutcome.noInput, none)) ∧
      (t.queue ch).map (·.grant) = ((s.queue ch).drop (lanelessOf hs).length).map (·.grant) := by
  obtain ⟨gs, queue, reports⟩ := loses.drained
  have length : (lanelessOf hs).length = gs.length := by simpa using congrArg List.length reports
  have takes : ((s.queue ch).take gs.length).map (·.grant) = gs := by rw [List.map_take, queue, List.take_left]
  rw [length]
  refine ⟨?_, by rw [List.map_drop, queue, List.drop_left]⟩
  calc (lanelessOf hs).map BurstRecord.report
      = gs.map fun g => (ch, g.station, g.start, .noInput, none) := reports
    _ = _ := by rw [← takes, List.map_map]; simp [takes, Function.comp_def]

/-- Settles O39: the aborts, the heads behind them and the claimants of the lanes aborted. -/
theorem inputLockLossAbortsReception : Obligations.InputLockLossAbortsReception := by
  unfold Obligations.InputLockLossAbortsReception
  intro s ch running
  refine ⟨exec_inputLockLocked, ?_⟩
  have distinct : (s.inputLanes ch).Nodup := List.Nodup.filter _ (List.Nodup.filter _ (by decide))
  have serve {l : Fin 12} (mem : l ∈ s.inputLanes ch) := (State.mem_inputLanes.1 mem).1
  have lost : ((s.loseLock ch).chan ch).lock = .lost := by rw [State.loseLock_chan_self]
  obtain ⟨hs, aborted⟩ := State.abortLanes_lose (s.inputLanes ch) (s.loseLock ch) distinct (fun l mem => serve mem) lost
  have loses := aborted.loses
  have still (none_ : lanelessOf hs = []) := (loses.still none_).trans (State.loseLock_queue ch ch)
  have heads := loses.heads
  rw [State.loseLock_queue] at heads
  refine ⟨_, hs, exec_inputLockLost running, loses.lost lost, fun l serves state => ?_, fun l out => ?_, loses.output, ?_,
    fun a mem => ?_, loses.noNotice, heads.1, heads.2, fun none_ => still ?_, fun l serves follows state => ?_, ?_, ?_,
    fun k ne => ?_, fun l m p legal serves state role claimed stays => ?_, loses.frame.timebase, loses.frame.patterns,
    loses.frame.directory, loses.frame.sweep, loses.frame.link, loses.frame.resetHeld⟩
  · exact aborted.freed l (State.mem_inputLanes.2 ⟨serves, state⟩)
  · obtain ⟨state, grant, channel, -⟩ := (aborted.kept l fun mem => by
      obtain ⟨serves, state⟩ := State.mem_inputLanes.1 mem
      rcases out with armed | closing | other
      · simp [armed] at state
      · simp [closing] at state
      · exact Bool.false_ne_true (other.symm.trans serves)).service
    exact ⟨state, grant, channel⟩
  · exact aborted.lanes.trans (s.inputLanes_emitting ch)
  · have listed : a.1 ∈ (s.inputLanes ch).filter _ := aborted.lanes ▸ List.mem_map_of_mem mem
    obtain ⟨-, channel⟩ := State.serves_iff.1 (serve (List.mem_filter.1 listed).1)
    have yields := (aborted.handed a mem).yields
    rw [show (s.loseLock ch).lane a.1 = s.lane a.1 from rfl, channel, State.loseLock_chan_self] at yields
    exact yields
  · refine aborted.still fun l mem => ?_
    obtain ⟨serves, state⟩ := State.mem_inputLanes.1 mem
    rw [s.loseLock_headFollows, Bool.eq_false_iff]
    intro follows
    simp [none_ l follows (State.serves_iff.1 serves).2] at state
  · have some_ := aborted.falls l (State.mem_inputLanes.2 ⟨serves, state⟩) ((s.loseLock_headFollows ch l).trans follows)
    exact List.length_pos_iff.2 some_
  · rw [loses.frame.chan ch, State.loseLock_chan_self]
  · have settles := loses.settles
    rwa [State.loseLock_chan_self] at settles
  · rw [loses.others k ne, State.loseLock_chan ne]
  · obtain ⟨-, stations⟩ := State.stationsLegal_iff.1 legal
    have waits : m ∉ s.inputLanes ch := fun mem => by
      obtain ⟨-, state⟩ := State.mem_inputLanes.1 mem
      have armed := legal.armed m p ((legal.claim m p).2 claimed)
      simp [armed] at state
    exact State.abortLanes_handOn (stations.setChan _ _) distinct (fun l mem => serve mem) lost
      (State.mem_inputLanes.2 ⟨serves, state⟩) waits ((legal.holder l p).1 role) claimed stays

end Sys2Proof.Machine
end

section
/-! A far time mark (R7, R8): the aborts of all lanes, the armings that follow, and what they hand over. -/

namespace Sys2Proof.Machine

variable {u s t : State}

/-! ### What aborts and armings make of the part -/

/-- A queued grant but for its link mark, which alone an arming ahead of it changes (R52). -/
def QueuedGrant.unlinked (g : QueuedGrant) : QueuedGrant := { g with link := false }

/-- The lane is ARMED with a grant that a queue held. -/
def Lane.TakenFrom (x : Lane) (s : State) : Prop :=
  x.state = .armed ∧ ∃ g ∈ s.queue x.channel, x.grant.unlinked = g.unlinked

theorem Lane.TakenFrom.service {x y : Lane} (h : x.TakenFrom s) (same : y.SameService x) : y.TakenFrom s := by
  obtain ⟨armed, g, mem, grant'⟩ := h
  obtain ⟨state, grant, channel, -, -⟩ := same
  exact ⟨state.trans armed, g, channel ▸ mem, grant ▸ grant'⟩

/-- The record of a grant that took no lane (R172). -/
def BurstRecord.Laneless (r : BurstRecord) : Prop :=
  r.lane = none ∧ (r.outcome = .noInput ∨ r.outcome = .missed ∨ r.outcome = .noLane)

/-- Aborts and armings (R8): what they hand over, and what becomes of queues, channels and lanes. -/
structure State.Steps (s t : State) (hs : List Handed) : Prop where
  output : t.output = s.output.placeAll s.counter hs
  laneless : ∀ r ∈ lanelessOf hs, r.Laneless
  frame : Frame s t
  queues : ∀ ch, (t.queue ch).map QueuedGrant.unlinked <:+ (s.queue ch).map QueuedGrant.unlinked
  settles : ∀ ch, (t.chan ch).state = (s.chan ch).state ∨
    ((s.chan ch).state = .stopping ∧ (t.chan ch).state = .ready)
  lanes : ∀ l, (t.lane l).state = .free ∨ (t.lane l).SameService (s.lane l) ∨ (t.lane l).TakenFrom s

theorem State.Steps.refl (s : State) : s.Steps s [] :=
  ⟨rfl, fun _ mem => absurd mem List.not_mem_nil, Frame.rfl s, fun _ => List.suffix_rfl, fun _ => .inl rfl,
    fun _ => .inr (.inl (Lane.SameService.rfl _))⟩

theorem State.Steps.taken {hs : List Handed} {x : Lane} (first : s.Steps t hs) (taken : x.TakenFrom t) : x.TakenFrom s := by
  obtain ⟨armed, g, mem, same⟩ := taken
  obtain ⟨f, mem', same'⟩ := List.mem_map.1 ((first.queues x.channel).subset (List.mem_map_of_mem mem))
  exact ⟨armed, f, mem', same.trans same'.symm⟩

theorem State.Steps.trans {hs ks : List Handed} (first : s.Steps t hs) (rest : t.Steps u ks) : s.Steps u (hs ++ ks) where
  output := by
    have counter : t.counter = s.counter := congrArg Timebase.counter first.frame.timebase
    rw [rest.output, first.output, counter, OutputQueue.placeAll_append]
  laneless r mem := by
    rw [lanelessOf_append] at mem
    exact (List.mem_append.1 mem).elim (first.laneless r) (rest.laneless r)
  frame := first.frame.trans rest.frame
  queues ch := (rest.queues ch).trans (first.queues ch)
  settles ch := by
    rcases rest.settles ch with same | ⟨stopping, ready⟩
    · rw [same]; exact first.settles ch
    · rcases first.settles ch with same' | ⟨-, ready'⟩
      · exact .inr ⟨same' ▸ stopping, ready⟩
      · rw [ready'] at stopping; cases stopping
  lanes l := by
    rcases rest.lanes l with free | same | taken
    · exact .inl free
    · rcases first.lanes l with free | same' | taken
      · exact .inl (same.1.trans free)
      · exact .inr (.inl (same.trans same'))
      · exact .inr (.inr (taken.service same))
    · exact .inr (.inr (first.taken taken))

/-- A lane that is FREE, or ARMED with a grant that a queue held, is so after what follows. -/
theorem State.Steps.freed {hs ks : List Handed} {k : Fin 12} (first : s.Steps t hs) (rest : t.Steps u ks)
    (h : (t.lane k).state = .free ∨ (t.lane k).TakenFrom s) : (u.lane k).state = .free ∨ (u.lane k).TakenFrom s := by
  rcases rest.lanes k with free | same | taken
  · exact .inl free
  · exact h.imp same.1.trans fun taken => taken.service same
  · exact .inr (first.taken taken)

/-- Armings of one channel (R45, R46, R52). -/
structure State.Arms (s t : State) (ch : Fin 6) (hs : List Handed) : Prop where
  steps : s.Steps t hs
  unaborted : abortedOf hs = []
  keeps : s.KeepsBursts t
  others : ∀ k, k ≠ ch → t.queue k = s.queue k

theorem State.Arms.refl (s : State) (ch : Fin 6) : s.Arms s ch [] := ⟨.refl s, rfl, .refl s, fun _ _ => rfl⟩

theorem State.Arms.trans {ch : Fin 6} {hs ks : List Handed} (first : s.Arms t ch hs) (rest : t.Arms u ch ks) :
    s.Arms u ch (hs ++ ks) :=
  ⟨first.steps.trans rest.steps, by rw [abortedOf_append, first.unaborted, rest.unaborted]; rfl,
    first.keeps.trans rest.keeps, fun k ne => (rest.others k ne).trans (first.others k ne)⟩

/-! ### The arming of one head (R46) -/

/-- A head that arms yields its record, or takes a FREE lane and checks out. -/
theorem State.armHead_cases (pool : List (Fin 12)) {ch : Fin 6} {g : QueuedGrant} {rest : List QueuedGrant}
    (waits : s.queue ch = g :: rest) :
    (∃ o : BurstOutcome, (o = .noInput ∨ o = .missed ∨ o = .noLane) ∧ (s.armHead pool ch).1 =
      (s.setQueue ch (behindHead g rest)).setOutput (s.output.placeRecord (s.headRecord ch g o))) ∨
    ∃ (l : Fin 12) (x : Lane), (s.lane l).state = .free ∧ x.state = .armed ∧ x.channel = ch ∧ x.grant = g ∧
      (s.armHead pool ch).1 = ((s.setQueue ch rest).setLane l x).checkout l := by
  have left (o : BurstOutcome) : (s.setQueue ch rest).leaveWithoutLane ch g o =
      (s.setQueue ch (behindHead g rest)).setOutput (s.output.placeRecord (s.headRecord ch g o)) := by
    rw [State.leaveWithoutLane_head, State.headRecord_eq]
    cases rest with
    | nil => rfl
    | cons h hs => rfl
  unfold State.armHead State.armGrant
  rw [waits]
  dsimp only
  split
  · exact .inl ⟨.noInput, .inl rfl, left _⟩
  · split
    · exact .inl ⟨.missed, .inr (.inl rfl), left _⟩
    · split
      · exact .inl ⟨.noLane, .inr (.inr rfl), left _⟩
      · rename_i l found
        exact .inr ⟨l, _, State.freeLane_free found, rfl, rfl, rfl, rfl⟩

/-- A judgement or a checkout hands over notices alone (R159). -/
theorem Work.judging_output (h : Work Judging s t) :
    ∃ es : List NoticeEvent, t.output = s.output.placeAll s.counter (es.map .notice) := by
  induction h with
  | refl => exact ⟨[], rfl⟩
  | step a h ha ih =>
    rename_i w
    obtain ⟨es, output⟩ := ih
    cases a with
    | lane l x => exact ⟨es, output⟩
    | prof p x => exact ⟨es, output⟩
    | notice e =>
      have counter : w.counter = s.counter := congrArg Timebase.counter h.frame.timebase
      refine ⟨es ++ [e], ?_⟩
      rw [List.map_append, OutputQueue.placeAll_append, ← output]
      show w.output.placeNotice w.counter e = _
      rw [counter]
      simp only [OutputQueue.placeAll, List.map_singleton, List.foldl_cons, List.foldl_nil, OutputQueue.placeHanded]
    | record r | queue ch q | ready ch => exact ha.elim

theorem abortedOf_notices (es : List NoticeEvent) : abortedOf (es.map .notice) = [] := by
  simp [abortedOf, List.filterMap_map]

theorem lanelessOf_notices (es : List NoticeEvent) : lanelessOf (es.map .notice) = [] := by
  simp [lanelessOf, List.filterMap_map]

theorem behindHead_unlinked (g : QueuedGrant) (rest : List QueuedGrant) :
    (behindHead g rest).map QueuedGrant.unlinked = rest.map QueuedGrant.unlinked := by
  cases rest with
  | nil => rfl
  | cons h hs => cases chain : g.grant.chain <;> simp [behindHead, chain, QueuedGrant.unlinked]

theorem State.setQueue_frame (s : State) (ch : Fin 6) (q : List QueuedGrant) : Frame s (s.setQueue ch q) :=
  (Act.queue ch q).apply_frame s

theorem State.setOutput_frame (s : State) (o : OutputQueue) : Frame s (s.setOutput o) :=
  ⟨rfl, rfl, rfl, rfl, rfl, rfl, rfl, fun _ => rfl⟩

theorem State.setLane_frame (s : State) (l : Fin 12) (x : Lane) : Frame s (s.setLane l x) := (Act.lane l x).apply_frame s

theorem State.setQueue_state (s : State) (ch k : Fin 6) (q : List QueuedGrant) :
    ((s.setQueue ch q).chan k).state = (s.chan k).state := by
  rw [State.setQueue_chan]
  split
  · rename_i e; subst e; rfl
  · rfl

theorem State.leaveHead_steps {ch : Fin 6} {g : QueuedGrant} {rest : List QueuedGrant} (waits : s.queue ch = g :: rest)
    {o : BurstOutcome} (laneless : o = .noInput ∨ o = .missed ∨ o = .noLane) :
    s.Steps ((s.setQueue ch (behindHead g rest)).setOutput (s.output.placeRecord (s.headRecord ch g o)))
      [.laneless (s.headRecord ch g o)] where
  output := by rw [State.setOutput_output, OutputQueue.placeAll_laneless, OutputQueue.placeAll_nil]
  laneless r mem := by
    obtain rfl : r = s.headRecord ch g o := List.mem_singleton.1 mem
    rw [State.headRecord_eq]
    exact ⟨rfl, laneless⟩
  frame := (s.setQueue_frame ch _).trans (State.setOutput_frame _ _)
  queues k := by
    rw [State.setOutput_queue, State.setQueue_queue]
    split
    · rename_i e
      subst e
      rw [waits, behindHead_unlinked]
      exact List.suffix_cons _ _
    · exact List.suffix_rfl
  settles k := .inl (by rw [State.setOutput_chan, State.setQueue_state])
  lanes k := .inr (.inl (Lane.SameService.rfl _))

theorem State.takeHead_steps {ch : Fin 6} {g : QueuedGrant} {rest : List QueuedGrant} {l : Fin 12} {x : Lane}
    (waits : s.queue ch = g :: rest) (armed : x.state = .armed) (channel : x.channel = ch) (grant : x.grant = g) :
    ∃ es : List NoticeEvent, s.Steps (((s.setQueue ch rest).setLane l x).checkout l) (es.map .notice) := by
  have work := ((s.setQueue ch rest).setLane l x).checkout_work l
  have frame := ((s.setQueue_frame ch rest).trans (State.setLane_frame _ l x)).trans work.frame
  have queue (k : Fin 6) := Work.judging_queue work k
  have chan (k : Fin 6) : (((s.setQueue ch rest).setLane l x).checkout l).chan k = (s.setQueue ch rest).chan k := by
    simp only [State.chan, work.channels_of_judging]; rfl
  obtain ⟨es, output⟩ := Work.judging_output work
  have service (k : Fin 12) := work.service k
  generalize ((s.setQueue ch rest).setLane l x).checkout l = w at *
  refine ⟨es, output, fun r mem => ?_, frame, fun k => ?_, fun k => .inl ?_, fun k => .inr ?_⟩
  · rw [lanelessOf_notices] at mem; exact absurd mem List.not_mem_nil
  · rw [queue, State.setLane_queue, State.setQueue_queue]
    split
    · rename_i e
      subst e
      rw [waits]
      exact List.suffix_cons _ _
    · exact List.suffix_rfl
  · rw [chan, State.setQueue_state]
  · have same := service k
    rw [State.setLane_lane] at same
    split at same
    · obtain ⟨state, grant', channel', -, -⟩ := same
      refine .inr ⟨state.trans armed, g, ?_, by rw [grant', grant]⟩
      rw [channel', channel, waits]
      exact List.mem_cons_self
    · exact .inl same

theorem State.armHead_arms (s : State) (pool : List (Fin 12)) (ch : Fin 6) :
    ∃ hs, s.Arms (s.armHead pool ch).1 ch hs ∧ ((s.armHead pool ch).1.queue ch).length = (s.queue ch).length - 1 := by
  have keeps := s.armHead_keepsBursts pool ch
  cases waits : s.queue ch with
  | nil =>
    have same : (s.armHead pool ch).1 = s := by unfold State.armHead; rw [waits]
    exact ⟨[], by rw [same]; exact .refl s ch, by rw [same, waits]; rfl⟩
  | cons g rest =>
    have queue := State.armHead_queue (pool := pool) waits
    have others (k : Fin 6) (ne : k ≠ ch) : (s.armHead pool ch).1.queue k = s.queue k := by rw [queue, if_neg ne.symm]
    have length : ((s.armHead pool ch).1.queue ch).length = rest.length := by
      rw [queue, if_pos rfl, unlinkedHead_length]
    rcases State.armHead_cases pool waits with ⟨o, laneless, armed⟩ | ⟨l, x, -, armed, channel, grant, taken⟩
    · exact ⟨_, ⟨armed ▸ State.leaveHead_steps waits laneless, rfl, keeps, others⟩, length⟩
    · obtain ⟨es, steps⟩ := State.takeHead_steps (l := l) waits armed channel grant
      exact ⟨_, ⟨taken ▸ steps, abortedOf_notices es, keeps, others⟩, length⟩

/-! ### Heads in sequence (R45, R48, R51, R52) -/

theorem armRun_arms (pool : List (Fin 12)) (ch : Fin 6) : ∀ (n : Nat) (s : State),
    ∃ hs, s.Arms (armRun pool ch n s) ch hs ∧ ((s.queue ch).length ≤ n → (armRun pool ch n s).headDue ch = false)
  | 0, s => ⟨[], .refl s ch, fun empty =>
      State.headDue_of_not_reached (q := []) (List.length_eq_zero_iff.1 (Nat.le_zero.1 empty)) (by simp)⟩
  | n + 1, s => by
    unfold armRun
    split
    · obtain ⟨hs, first, length⟩ := s.armHead_arms pool ch
      obtain ⟨ks, rest, done⟩ := armRun_arms pool ch n (s.armHead pool ch).1
      exact ⟨_, first.trans rest, fun short => done (by omega)⟩
    · rename_i notDue
      exact ⟨[], .refl s ch, fun _ => Bool.eq_false_iff.2 notDue⟩

theorem brokenRun_arms (ch : Fin 6) : ∀ (n : Nat) (r : State × Bool), ∃ hs, r.1.Arms (brokenRun ch n r) ch hs
  | 0, r => ⟨[], .refl r.1 ch⟩
  | n + 1, r => by
    unfold brokenRun
    split
    · obtain ⟨hs, first, -⟩ := r.1.armHead_arms laneIds ch
      obtain ⟨ks, rest⟩ := brokenRun_arms ch n (r.1.armHead laneIds ch)
      exact ⟨_, first.trans rest⟩
    · exact ⟨[], .refl r.1 ch⟩

theorem State.fallback_arms (s : State) (ch : Fin 6) (b : Bool) : ∃ hs, s.Arms (s.fallback ch b) ch hs := by
  obtain ⟨hs, head, -⟩ := s.armHead_arms laneIds ch
  obtain ⟨ks, broken⟩ := brokenRun_arms ch (s.queue ch).length (s.armHead laneIds ch)
  have arms := head.trans broken
  unfold State.fallback
  cases b with
  | true => exact ⟨_, arms⟩
  | false =>
    obtain ⟨js, run, -⟩ := armRun_arms laneIds ch _ (brokenRun ch (s.queue ch).length (s.armHead laneIds ch))
    exact ⟨_, arms.trans run⟩

theorem State.settle_arms (s : State) (ch : Fin 6) : s.Arms (s.settle ch) ch [] := by
  have loses := s.settle_loses ch
  have lane := s.settle_lane ch
  have queue := s.settle_queue ch
  generalize s.settle ch = w at *
  refine ⟨⟨loses.output, fun _ mem => absurd mem List.not_mem_nil, loses.frame, fun k => ?_, fun k => ?_, fun k => ?_⟩,
    rfl, fun k _ => ?_, fun k _ => queue k⟩
  · rw [queue]
  · by_cases own : k = ch
    · subst own; exact loses.settles
    · exact .inl (by rw [loses.others k own])
  · rw [lane]; exact .inr (.inl (Lane.SameService.rfl _))
  · rw [lane]; exact .refl _

/-! ### The aborts of a step (R7, R77) -/

section Aborts

variable {c : AbortCause}

/-- The record is the one that the abort of the lane yields, as the lane stands (R75, R76). -/
def State.YieldsAtAbort (s : State) (c : AbortCause) (l : Fin 12) (r : BurstRecord) : Prop :=
  (s.lane l).AbortYields l c (s.chan (s.lane l).channel).disposition s.counter r

/-- Standings that report the same burst yield the same record. -/
theorem State.YieldsAtAbort.congr {l : Fin 12} {r : BurstRecord} (h : t.YieldsAtAbort c l r)
    (same : (t.lane l).SameReport (s.lane l))
    (disposition : (t.chan (s.lane l).channel).disposition = (s.chan (s.lane l).channel).disposition)
    (counter : t.counter = s.counter) : s.YieldsAtAbort c l r := by
  obtain ⟨closing, identity, outcome, measurement, sums, symbols, ranging, emitted⟩ := h
  obtain ⟨⟨state, grant, channel, measured, cls⟩, record, member, listed, saturated, holdover⟩ := same
  rw [state] at closing identity outcome measurement sums symbols ranging
  rw [channel, disposition] at symbols
  rw [channel, cls, grant] at identity
  rw [measured] at measurement
  rw [member] at sums
  rw [listed] at symbols
  rw [grant] at ranging
  rw [saturated, holdover, counter] at emitted
  refine ⟨fun e => ?_, identity, outcome, measurement, sums, symbols, ranging, emitted⟩
  obtain ⟨f, found, burst⟩ := closing e
  rw [found] at record
  generalize fixed : (s.lane l).record = kept at record
  cases record with
  | some same => exact ⟨_, rfl, burst.trans same⟩

theorem sameBurst_isSome {a b : Option BurstRecord} (h : Option.Rel BurstRecord.SameBurst a b) : a.isSome = b.isSome := by
  cases h <;> rfl

theorem State.emitsAtAbort_report {k : Fin 12} (same : (t.lane k).SameReport (s.lane k))
    (disposition : (t.chan (s.lane k).channel).disposition = (s.chan (s.lane k).channel).disposition) :
    t.emitsAtAbort k = s.emitsAtAbort k := by
  obtain ⟨state, -, channel, -, -⟩ := same.service
  unfold State.emitsAtAbort Lane.abortEmits
  rw [state, sameBurst_isSome same.record, channel, disposition]

/-- The aborts of the lanes `ls`, each as it stood at the start, and the armings between them (R8, R51, R77). -/
structure State.Aborts (s t : State) (c : AbortCause) (ls : List (Fin 12)) (hs : List Handed) : Prop where
  steps : s.Steps t hs
  lanes : (abortedOf hs).map (·.1) = ls.filter s.emitsAtAbort
  yields : ∀ a ∈ abortedOf hs, s.YieldsAtAbort c a.1 a.2
  freed : ∀ k ∈ ls, (t.lane k).state = .free ∨ (t.lane k).TakenFrom s
  kept : ∀ k, k ∉ ls → (s.lane k).state ≠ .free → (t.lane k).SameReport (s.lane k)

theorem State.Aborts.refl (s : State) (c : AbortCause) : s.Aborts s c [] [] :=
  ⟨.refl s, rfl, fun _ mem => absurd mem List.not_mem_nil, fun _ mem => absurd mem List.not_mem_nil, fun _ _ _ => .refl _⟩

/-- Armings after the aborts. -/
theorem State.Aborts.arms {ch : Fin 6} {ls : List (Fin 12)} {hs ks : List Handed} (first : s.Aborts t c ls hs)
    (rest : t.Arms u ch ks) : s.Aborts u c ls (hs ++ ks) where
  steps := first.steps.trans rest.steps
  lanes := by rw [abortedOf_append, rest.unaborted, List.append_nil]; exact first.lanes
  yields a mem := by
    rw [abortedOf_append, rest.unaborted, List.append_nil] at mem
    exact first.yields a mem
  freed k mem := first.steps.freed rest.steps (first.freed k mem)
  kept k out busy := by
    have same := first.kept k out busy
    exact (rest.keeps k (by rw [same.service.1]; exact busy)).trans same

/-- Further aborts, of lanes that the first one left. -/
theorem State.Aborts.cons {l : Fin 12} {ls : List (Fin 12)} {hs ks : List Handed} (first : s.Aborts t c [l] hs)
    (rest : t.Aborts u c ls ks) (fresh : l ∉ ls) (busy : ∀ k ∈ ls, (s.lane k).state ≠ .free) :
    s.Aborts u c (l :: ls) (hs ++ ks) := by
  have same {k : Fin 12} (mem : k ∈ ls) : (t.lane k).SameReport (s.lane k) :=
    first.kept k (fun e => fresh (List.mem_singleton.1 e ▸ mem)) (busy k mem)
  have disposition (k : Fin 6) : (t.chan k).disposition = (s.chan k).disposition := by rw [first.steps.frame.chan k]
  have counter : t.counter = s.counter := congrArg Timebase.counter first.steps.frame.timebase
  refine ⟨first.steps.trans rest.steps, ?_, fun a mem => ?_, fun k mem => ?_, fun k out stands => ?_⟩
  · rw [abortedOf_append, List.map_append, first.lanes, rest.lanes, ← List.singleton_append (l := ls), List.filter_append]
    exact congrArg _ (List.filter_congr fun k mem => State.emitsAtAbort_report (same mem) (disposition _))
  · rw [abortedOf_append] at mem
    rcases List.mem_append.1 mem with mem | mem
    · exact first.yields a mem
    · have listed : a.1 ∈ ls.filter t.emitsAtAbort := rest.lanes ▸ List.mem_map_of_mem mem
      exact (rest.yields a mem).congr (same (List.mem_filter.1 listed).1) (disposition _) counter
  · rcases List.mem_cons.1 mem with rfl | mem
    · exact first.steps.freed rest.steps (first.freed k List.mem_cons_self)
    · exact (rest.freed k mem).imp id first.steps.taken
  · rw [List.mem_cons, not_or] at out
    have before := first.kept k (fun e => out.1 (List.mem_singleton.1 e)) stands
    exact (rest.kept k out.2 (by rw [before.service.1]; exact stands)).trans before

theorem State.vacate_aborts (c : AbortCause) {l : Fin 12} (busy : (s.lane l).state ≠ .free) :
    s.Aborts (s.vacate l c) c [l] ((s.abortHands l c).toList.map (.aborted l)) := by
  have aborted : abortedOf ((s.abortHands l c).toList.map (.aborted l)) = (s.abortHands l c).toList.map (l, ·) := by
    cases s.abortHands l c <;> rfl
  have emits := State.abortHands_isSome (c := c) busy
  refine ⟨⟨?_, fun r mem => ?_, s.vacate_frame l c, fun k => ?_, fun k => .inl ?_, fun k => ?_⟩, ?_, fun a mem => ?_,
    fun k mem => .inl ?_, fun k out _ => ?_⟩
  · rw [State.vacate_output]
    cases s.abortHands l c with
    | none => rfl
    | some r => rw [OutputQueue.placeAny_some, Option.toList_some, List.map_singleton, OutputQueue.placeAll_aborted,
        OutputQueue.placeAll_nil]
  · cases hands : s.abortHands l c <;> rw [hands] at mem <;> exact absurd mem List.not_mem_nil
  · rw [State.vacate_queue]
  · rw [State.vacate_chan]
  · by_cases own : k = l
    · exact .inl (own ▸ s.vacate_lane_state k c)
    · exact .inr (.inl (s.vacate_handover c own).service)
  · rw [aborted]
    cases hands : s.abortHands l c with
    | none => rw [hands] at emits; simp [← emits]
    | some r => rw [hands] at emits; simp [← emits]
  · rw [aborted] at mem
    obtain ⟨r, found, rfl⟩ := List.mem_map.1 mem
    exact (State.abortHands_handsOver (Option.mem_toList.1 found)).yields
  · obtain rfl := List.mem_singleton.1 mem
    exact s.vacate_lane_state k c
  · exact (s.vacate_handover c fun e => out (List.mem_singleton.2 e)).report

theorem State.abortLane_aborts (c : AbortCause) (b : Bool) {l : Fin 12} (busy : (s.lane l).state ≠ .free) :
    ∃ hs, s.Aborts (State.abortLane c b s l) c [l] hs := by
  have vacated := State.vacate_aborts c busy
  rw [State.abortLane_eq s c b busy]
  split
  · obtain ⟨ks, arms⟩ := (s.vacate l c).fallback_arms (s.lane l).channel b
    exact ⟨_, (vacated.arms arms).arms (State.settle_arms _ _)⟩
  · exact ⟨_, vacated.arms (State.settle_arms _ _)⟩

theorem State.abortLanes_abort (c : AbortCause) (b : Bool) : ∀ (ls : List (Fin 12)) (s : State), ls.Nodup →
    (∀ l ∈ ls, (s.lane l).state ≠ .free) → ∃ hs, s.Aborts (s.abortLanes c b ls) c ls hs
  | [], s, _, _ => ⟨[], .refl s c⟩
  | l :: ls, s, distinct, busy => by
    obtain ⟨fresh, distinct⟩ := List.nodup_cons.1 distinct
    obtain ⟨hs, first⟩ := State.abortLane_aborts c b (busy l List.mem_cons_self)
    have busy' (k : Fin 12) (mem : k ∈ ls) := busy k (List.mem_cons_of_mem _ mem)
    obtain ⟨ks, rest⟩ := State.abortLanes_abort c b ls (State.abortLane c b s l) distinct fun k mem => by
      rw [(first.kept k (fun e => fresh (List.mem_singleton.1 e ▸ mem)) (busy' k mem)).service.1]
      exact busy' k mem
    exact ⟨_, first.cons rest fresh busy'⟩

end Aborts

/-! ### The armings of a forward step (R8) -/

/-- A head that is not due stays so while other channels arm. -/
theorem State.Arms.headDue {ch k : Fin 6} {hs : List Handed} (arms : s.Arms t ch hs) (ne : k ≠ ch)
    (waits : s.headDue k = false) : t.headDue k = false := by
  unfold State.headDue at *
  rw [arms.others k ne]
  cases queue : s.queue k with
  | nil => rfl
  | cons g rest =>
    rw [queue] at waits
    cases reached : g.armReached with
    | false => simp [reached]
    | true =>
      have linked : s.linked k g = true := by simpa [reached] using waits
      simp only [State.linked, Bool.and_eq_true, List.any_eq_true] at linked
      obtain ⟨link, l, mem, precedes⟩ := linked
      have busy : (s.lane l).state ≠ .free := fun free => by simp [Lane.precedes, free, LaneState.receiving] at precedes
      obtain ⟨state, grant, channel, -, -⟩ := (arms.keeps l busy).service
      have linked' : t.linked k g = true := by
        simp only [State.linked, Bool.and_eq_true, List.any_eq_true]
        refine ⟨link, l, mem, ?_⟩
        unfold Lane.precedes at *
        rw [state, grant, channel]
        exact precedes
      simp [linked']

theorem State.settle_headDue (s : State) (ch k : Fin 6) : (s.settle ch).headDue k = s.headDue k := by
  unfold State.headDue State.linked
  simp only [State.settle_queue, State.settle_lane]

/-- The armings of one channel after a forward step: its due heads arm, and the channel settles. -/
theorem State.armChannel_arms (s : State) (pool : List (Fin 12)) (ch : Fin 6) :
    ∃ hs, s.Arms (if s.headDue ch then (s.runQueue pool ch).settle ch else s) ch hs ∧
      State.headDue (if s.headDue ch then (s.runQueue pool ch).settle ch else s) ch = false := by
  split
  · obtain ⟨hs, arms, done⟩ := armRun_arms pool ch (s.queue ch).length s
    exact ⟨_, arms.trans (State.settle_arms _ ch), (State.settle_headDue _ ch ch).trans (done le_rfl)⟩
  · rename_i notDue
    exact ⟨[], .refl s ch, Bool.eq_false_iff.2 notDue⟩

/-- The armings of the channels `chs` in order, after the aborts of a step: none of them is left with a due head. -/
theorem State.Aborts.armAll {c : AbortCause} {ls : List (Fin 12)} (pool : List (Fin 12)) : ∀ (chs done : List (Fin 6))
    (t : State) (hs : List Handed), s.Aborts t c ls hs → (∀ k ∈ done, t.headDue k = false) →
    ∃ ks, s.Aborts (chs.foldl (fun s ch => if s.headDue ch then (s.runQueue pool ch).settle ch else s) t) c ls ks ∧
      ∀ k, k ∈ done ∨ k ∈ chs →
        (chs.foldl (fun s ch => if s.headDue ch then (s.runQueue pool ch).settle ch else s) t).headDue k = false
  | [], done, t, hs, aborts, waits => ⟨hs, aborts, fun k mem => waits k (mem.resolve_right List.not_mem_nil)⟩
  | ch :: chs, done, t, hs, aborts, waits => by
    obtain ⟨ks, arms, own⟩ := t.armChannel_arms pool ch
    obtain ⟨js, rest, all⟩ := State.Aborts.armAll pool chs (ch :: done) _ _ (aborts.arms arms) fun k mem => by
      by_cases same : k = ch
      · exact same ▸ own
      · exact arms.headDue same (waits k ((List.mem_cons.1 mem).resolve_left same))
    refine ⟨js, rest, fun k mem => all k ?_⟩
    simp only [List.mem_cons] at *
    tauto

/-! ### A mark beyond the step tolerance -/

/-- The lanes that a step aborts. -/
def State.busyLanes (s : State) : List (Fin 12) := laneIds.filter fun l => (s.lane l).state != .free

/-- The aborts and the armings of a step. -/
def State.afterStep (s : State) (T : Tick) (d : Int) (pool : List (Fin 12)) : State :=
  if 0 < d then ((s.stepCounter T).abortLanes .timebaseStep (decide (0 < d)) (s.stepCounter T).busyLanes).armAll pool
  else (s.stepCounter T).abortLanes .timebaseStep (decide (0 < d)) (s.stepCounter T).busyLanes

theorem State.stepMark_eq (s : State) (T : Tick) (d : Int) :
    s.stepMark T d = (((s.afterStep T d s.freeLanes).notify (.timebaseStep (saturateStep d))).setLastMark T).resync := rfl

theorem State.afterStep_aborts (s : State) (T : Tick) (d : Int) (pool : List (Fin 12)) :
    ∃ hs, (s.stepCounter T).Aborts (s.afterStep T d pool) .timebaseStep (s.stepCounter T).busyLanes hs ∧
      (0 < d → ∀ ch, (s.afterStep T d pool).headDue ch = false) := by
  have distinct : (s.stepCounter T).busyLanes.Nodup := List.Nodup.filter _ (by decide)
  obtain ⟨hs, aborts⟩ := State.abortLanes_abort .timebaseStep (decide (0 < d)) (s.stepCounter T).busyLanes (s.stepCounter T)
    distinct fun l mem => by simpa using (List.mem_filter.1 mem).2
  unfold State.afterStep
  split
  · obtain ⟨ks, armed, done⟩ := aborts.armAll pool channelIds [] _ _ fun k mem => absurd mem List.not_mem_nil
    exact ⟨ks, armed, fun _ ch => done ch (.inr (mem_channelIds ch))⟩
  · rename_i back
    exact ⟨hs, aborts, fun forward => absurd forward back⟩

theorem Lane.noteTicks_report (x : Lane) (T : Tick) : (x.noteTicks T).SameReport x := by
  unfold Lane.noteTicks
  split
  · exact .refl x
  · exact ⟨⟨rfl, rfl, rfl, rfl, rfl⟩, sameBurst_refl _, rfl, rfl, rfl, rfl⟩

theorem State.stepCounter_report (s : State) (T : Tick) (l : Fin 12) :
    ((s.stepCounter T).lane l).SameReport (s.lane l) := by
  rw [State.stepCounter_lane]; exact Lane.noteTicks_report _ T

theorem State.stepCounter_emits (s : State) (T : Tick) : (s.stepCounter T).busyLanes.filter (s.stepCounter T).emitsAtAbort =
    (List.finRange 12).filter fun l => (s.lane l).abortEmits (s.chan (s.lane l).channel).disposition := by
  rw [State.busyLanes, List.filter_filter, laneIds_eq]
  refine List.filter_congr fun l _ => ?_
  have emits : (s.stepCounter T).emitsAtAbort l = s.emitsAtAbort l :=
    State.emitsAtAbort_report (s.stepCounter_report T l) (by rw [State.stepCounter_chan]; rfl)
  rw [emits, (s.stepCounter_report T l).service.1]
  unfold State.emitsAtAbort Lane.abortEmits
  cases (s.lane l).state <;> simp

/-- The grant of a lane that took it from a queue judged by the load (R8). -/
theorem Lane.TakenFrom.stepCounter {x : Lane} {T : Tick} (h : x.TakenFrom (s.stepCounter T)) :
    x.state = .armed ∧ ∃ g ∈ s.queue x.channel,
      x.grant = { g with link := x.grant.link, armReached := x.grant.armReached } := by
  obtain ⟨armed, g, mem, same⟩ := h
  rw [State.stepCounter_queue] at mem
  obtain ⟨f, held, rfl⟩ := List.mem_map.1 mem
  refine ⟨armed, f, held, ?_⟩
  simp only [QueuedGrant.unlinked, QueuedGrant.judgeArm, QueuedGrant.mk.injEq] at same
  obtain ⟨grant, start, arm, stop, count, -, -⟩ := same
  rw [← grant, ← start, ← arm, ← stop, ← count]

/-- After a step every queued grant's arm tick stands as the load judged it (R8). -/
theorem State.Steps.judged {hs : List Handed} {T : Tick} {ch : Fin 6} {g : QueuedGrant}
    (steps : (s.stepCounter T).Steps t hs) (mem : g ∈ t.queue ch) : g.armReached = !ahead g.armTick T := by
  obtain ⟨f, held, same⟩ := List.mem_map.1 ((steps.queues ch).subset (List.mem_map_of_mem mem))
  rw [State.stepCounter_queue] at held
  obtain ⟨e, -, rfl⟩ := List.mem_map.1 held
  simp only [QueuedGrant.unlinked, QueuedGrant.judgeArm, QueuedGrant.mk.injEq] at same
  obtain ⟨-, -, arm, -, -, -, reached⟩ := same
  rw [← arm, ← reached]

/-- A head that remains is linked, or its arm tick lies ahead. -/
theorem State.linked_or_early {T : Tick} {ch : Fin 6} {g : QueuedGrant} {rest : List QueuedGrant}
    (waits : s.queue ch = g :: rest) (notDue : s.headDue ch = false) (judged : g.armReached = !ahead g.armTick T) :
    s.linked ch g = true ∨ ahead g.armTick T = true := by
  unfold State.headDue at notDue
  rw [waits] at notDue
  simpa [judged, ← Bool.not_eq_false, or_iff_not_imp_left] using notDue

/-- The lanes after a step (R7, R8). -/
theorem State.Aborts.lane_cases {c : AbortCause} {hs : List Handed} (aborts : s.Aborts t c s.busyLanes hs) (l : Fin 12) :
    (t.lane l).state = .free ∨ (t.lane l).TakenFrom s := by
  by_cases free : (s.lane l).state = .free
  · rcases aborts.steps.lanes l with free' | same | taken
    · exact .inl free'
    · exact .inl (same.1.trans free)
    · exact .inr taken
  · exact aborts.freed l (List.mem_filter.2 ⟨mem_laneIds l, by simpa using free⟩)

theorem saturateStep_eq (d : Tick) : saturateStep d.toInt = max (-(2 ^ 31 - 1)) d.toInt := by
  have low := d.le_toInt
  have high := d.toInt_lt
  unfold saturateStep clampInt
  omega

/-- The end of a step: its notice, and in HOLDOVER the return to SYNCED (R7). -/
theorem State.endStep_eq (synced : s.timebase.sync ≠ .unsynced) (e : NoticeEvent) (T : Tick) :
    ((s.notify e).setLastMark T).resync = { s with
      timebase := { s.timebase with sync := .synced, lastMark := T }
      output := if s.timebase.sync = .holdover then
          (s.output.placeNotice s.counter e).placeNotice s.counter (.syncRegained s.counter)
        else s.output.placeNotice s.counter e } := by
  rw [State.notify]
  generalize s.output.placeNotice s.counter e = o
  exact State.resync_eq synced

/-- What a step keeps of a channel and of its queue (R8, R22). -/
theorem State.Steps.channel {hs : List Handed} {T : Tick} (steps : (s.stepCounter T).Steps t hs) (ch : Fin 6) :
    t.chan ch = { s.chan ch with state := (t.chan ch).state, queue := t.queue ch } ∧
      (t.queue ch).length ≤ (s.queue ch).length ∧ (t.queue ch).map (·.grant) <:+ (s.queue ch).map (·.grant) ∧
      ((t.chan ch).state = (s.chan ch).state ∨ ((s.chan ch).state = .stopping ∧ (t.chan ch).state = .ready)) := by
  have chan := steps.frame.chan ch
  have settles := steps.settles ch
  have queue := steps.queues ch
  rw [State.stepCounter_chan] at chan settles
  rw [State.stepCounter_queue] at queue
  have length := queue.length_le
  have grants := queue.map QueuedGrant.grant
  simp only [List.map_map, List.length_map] at length grants
  exact ⟨chan, length, grants, settles⟩

/-- Settles O16: the load, the aborts, the armings of a forward step, and the notices. -/
theorem farMarkStepsTheCounter : Obligations.FarMarkStepsTheCounter := by
  unfold Obligations.FarMarkStepsTheCounter
  intro s tag T ready synced far
  have stepped : s.taken.takeMark T = s.taken.stepMark T (T - s.timebase.counter).toInt := by
    cases state : s.timebase.sync with
    | unsynced => exact absurd state synced
    | synced | holdover =>
      simp only [State.takeMark, State.taken_timebase, state]
      exact if_neg (not_le.2 far)
  obtain ⟨hs, aborts, done⟩ := s.taken.afterStep_aborts T (T - s.timebase.counter).toInt s.taken.freeLanes
  have mark := exec_timeMark_ready (by simp [writeTimeMark]) ready (readTimeMark_writeTimeMark T)
  rw [stepped, State.stepMark_eq, saturateStep_eq] at mark
  generalize s.taken.afterStep T (T - s.timebase.counter).toInt s.taken.freeLanes = u at aborts done mark
  have steps := aborts.steps
  have timebase : u.timebase = { s.timebase with counter := T } := steps.frame.timebase
  have counter : u.counter = T := congrArg Timebase.counter timebase
  have output : u.output = s.output.placeAll T hs := steps.output
  rw [State.endStep_eq (by rw [timebase]; exact synced), timebase, output, counter] at mark
  refine ⟨_, hs, s.output.placeAll T hs, mark, ?_, fun l => ?_, ?_, fun a mem => ?_, steps.laneless, rfl, ?_, fun ch => ?_,
    fun ch g rest forward waits => ?_, steps.frame.patterns, steps.frame.directory, steps.frame.sweep, steps.frame.link,
    steps.frame.resetHeld⟩
  · rfl
  · exact (aborts.lane_cases l).imp id fun taken => taken.stepCounter
  · exact aborts.lanes.trans (s.taken.stepCounter_emits T)
  · exact (aborts.yields a mem).congr (s := { s with timebase := { s.timebase with counter := T } })
      (s.taken.stepCounter_report T a.1) (by rw [State.stepCounter_chan]; rfl) rfl
  · rfl
  · exact steps.channel ch
  · exact State.linked_or_early (s := u) waits (done forward ch) (steps.judged (ch := ch) (waits ▸ List.mem_cons_self))

end Sys2Proof.Machine
end
